-- ==== Sys2Proof/Word.lean ====
section
/-! DEFINITION. The widths of the HM-412: bytes of a link, words of the store, cycle numbers. -/

namespace Sys2Proof

/-- One byte of a link (R192). -/
abbrev Byte := BitVec 8

/-- The 16 data bits of a store word (R1). -/
abbrev Word := BitVec 16

/-- A 32-bit cycle number (R49). -/
abbrev Cycle := BitVec 32

/-- A 32-bit installation code (R186). -/
abbrev Code := BitVec 32

end Sys2Proof
end

