-- ==== Sys2Proof/Config.lean ====
section
/-! DEFINITION. The sizes the manual fixes, and the values it leaves open (constants with no body). -/

namespace Sys2Proof

/-- What a read of a store word gives (R3). -/
inductive ReadResult where
  /-- The check bits agree with the data bits. -/
  | clean (value : Word)
  /-- A single-bit error, with the corrected data value. -/
  | corrected (value : Word)
  /-- A double-bit error: no value. -/
  | uncorrectable
deriving DecidableEq, Repr, Inhabited

namespace Config

/-- Words of the working region (R1): a working address and its checkpoint copy lie this far apart. -/
def workingWords : Nat := 32768
/-- Words of the store (R1). -/
def storeWords : Nat := 65536
/-- The modulus of the digest arithmetic (R19). -/
def digestModulus : Nat := 65521
/-- The longest table (R11). -/
def maxTableLength : Nat := 4096
/-- Addresses the change list holds (R50). -/
def changeListMax : Nat := 1024
/-- Addresses the lost list holds (R53). -/
def lostListMax : Nat := 8
/-- Words of one READ or WRITE (R40, R44) and of one IMAGE BLOCK (R102). -/
def requestWords : Nat := 32
/-- Requests of the request queue (R178). -/
def requestQueueMax : Nat := 4
/-- Replies of the immediate queue (R179). -/
def immediateQueueMax : Nat := 4
/-- Notices of the notice queue (R180). -/
def noticeQueueMax : Nat := 16
/-- Control receive slots of a port, and the control credit (R105, R108). -/
def controlSlots : Nat := 2
/-- Bulk receive slots of a port, and the bulk credit (R105, R108). -/
def bulkSlots : Nat := 6
/-- Frames of a control send queue (R109). -/
def controlSendMax : Nat := 8
/-- Entries of the outbound bulk queue (R151). -/
def bulkQueueMax : Nat := 64
/-- Entries of the fault log (R169). -/
def faultLogMax : Nat := 16
/-- Ranges of a JOIN descriptor (R138). -/
def maxRanges : Nat := 16
/-- Largest value of a 16-bit counter that saturates or wraps (R84, R109, R168, R180). -/
def counterMax : Nat := 65535

/-- The part name (R183). -/
def partName : String := "HM-412"
/-- The design revision (R183). -/
def revision : Nat := 1

/-- FREE VALUE (R4, log 7): what a read gives for a word written as `value` of whose 22 bits those set
in `flips` have turned, where three or more have. The manual allows each of the three results. -/
opaque multiBitRead (value : Word) (flips : BitVec 22) : ReadResult

/-- FREE VALUE (R183, log 21): the bytes by which a reply gives a part name. -/
opaque partNameBytes (name : String) : List Byte

/-- FREE VALUE (R183, log 21): the bytes by which a reply gives a design revision. -/
opaque revisionBytes (revision : Nat) : List Byte

/-- FREE VALUE (R119, R192, log 20): the code of a reason of a STANDING CHANGE NOTICE that another chapter than that of
R119 gives; the argument numbers these reasons in the model's order. -/
opaque standingReasonCode (n : Nat) : Byte

/-- FREE VALUE (R144, R192, log 20): the code of a reason of RESYNC NOTICE and RESYNC FAILED that R144 alone gives; the
argument numbers these reasons in the model's order. -/
opaque resyncReasonCode (n : Nat) : Byte

end Config
end Sys2Proof
end

