-- ==== Sys2Proof/Syntax.lean ====
section
/-! DEFINITION. The commands: one constructor of `Instr` for each row of spec/opcode_table.json. The rows
give no operands (log 1): a request's fields travel in the frame that LANE_FRAME_RECEIVED brings, a
message's fields in the frame that CROSS_FRAME_ARRIVAL brings. -/

namespace Sys2Proof

/-- The two cross-link ports (R100). -/
inductive Port where
  | x1
  | x2
deriving DecidableEq, Repr

/-- The six requesters of the store arbiter, in the order of their positions (R7). -/
inductive Requester where
  /-- Position 1: the lane request in service. -/
  | lane
  /-- Position 2: the cycle unit. -/
  | cycle
  /-- Position 3: the joining part's resync unit. -/
  | joiner
  /-- Position 4: the donor's resync unit. -/
  | donor
  /-- Position 5: the verify unit. -/
  | verify
  /-- Position 6: the scrub unit. -/
  | scrub
deriving DecidableEq, Repr

/-- What comes from outside with one grant of the arbiter. -/
structure Grant where
  /-- The requesters that have asked for their next access since the grant before (R7, log 10). -/
  asks : List Requester
  /-- The bits of the accessed word that have turned in the SRAM since its last access: bits 0 to 15
  are data bits, bits 16 to 21 check bits (R2, log 6). -/
  upset : BitVec 22
deriving DecidableEq, Repr

/-- The commands of the part. -/
inductive Instr where
  /-- POWER_ON_RESET: RST goes high with the strap pins at these levels (R182). -/
  | powerOnReset (lsel0 lsel1 : Bool)
  /-- STORE_CLEAR_WRITE (R5). -/
  | storeClearWrite
  /-- LANE_FRAME_RECEIVED: the last byte of a lane frame; its length field is the body's length plus 2 (R177, R192). -/
  | laneFrameReceived (kind tag : Byte) (body : List Byte) (crc : BitVec 16)
  /-- LANE_LENGTH_FIELD_BAD: a length field with this value has been received (R176). -/
  | laneLengthFieldBad (length : BitVec 16)
  /-- LANE_IDLE_GAP (R176). -/
  | laneIdleGap
  /-- LANE_TRANSMIT_END (R179). -/
  | laneTransmitEnd
  /-- UNKNOWN_REQUEST enters service (R177). -/
  | unknownRequest
  /-- IDENTIFY enters service (R183). -/
  | identify
  /-- STATUS enters service (R184). -/
  | status
  /-- READ STANDING enters service (R185). -/
  | readStanding
  /-- SET INSTALLATION enters service (R186). -/
  | setInstallation
  /-- SET TIMING enters service (R187). -/
  | setTiming
  /-- DEFINE TABLE enters service (R13). -/
  | defineTable
  /-- CLEAR DIRECTORY enters service (R15). -/
  | clearDirectory
  /-- START COLD enters service (R188). -/
  | startCold
  /-- JOIN enters service (R138). -/
  | join
  /-- LANE RESET: `some tag` arrives as a good frame with this tag (R190); `none` is a LANE RESET
  queued in INIT entering service (R182, log 15). -/
  | laneReset (arrival : Option Byte)
  /-- READ enters service (R40). -/
  | read
  /-- WRITE enters service (R44). -/
  | write
  /-- WRITE MASKED enters service (R46). -/
  | writeMasked
  /-- SAFE FILL enters service (R47). -/
  | safeFill
  /-- READ DIGESTS enters service (R31). -/
  | readDigests
  /-- CLOSE CYCLE enters service (R54). -/
  | closeCycle
  /-- ROLLBACK enters service (R66). -/
  | rollback
  /-- VERIFY enters service (R90). -/
  | verify
  /-- VERIFY STOP enters service (R98). -/
  | verifyStop
  /-- FAULT REPORT enters service (R172). -/
  | faultReport
  /-- SET NOTICE MASK enters service (R171). -/
  | setNoticeMask
  /-- LANE_WORD_READ (R41). -/
  | laneWordRead (g : Grant)
  /-- LANE_WORD_CHANGE (R33). -/
  | laneWordChange (g : Grant)
  /-- CLOSE_CHECK_READ (R58). -/
  | closeCheckRead (g : Grant)
  /-- CLOSE_COPY_ACCESS (R59). -/
  | closeCopyAccess (g : Grant)
  /-- ROLLBACK_ACCESS (R67). -/
  | rollbackAccess (g : Grant)
  /-- ESTABLISHING_READ (R28). -/
  | establishingRead (g : Grant)
  /-- ESTABLISHING_SAFE_WRITE (R28). -/
  | establishingSafeWrite (g : Grant)
  /-- FULL_COPY_ACCESS (R65). -/
  | fullCopyAccess (g : Grant)
  /-- PACE_TICK (R86). -/
  | paceTick
  /-- SCRUB_READ (R87). -/
  | scrubRead (g : Grant)
  /-- DECISION_OTHER_READ (R74). -/
  | decisionOtherRead (g : Grant)
  /-- DECISION_CLEAR_WRITE (R76). -/
  | decisionClearWrite (g : Grant)
  /-- DECISION_RESTORE_WRITE (R78). -/
  | decisionRestoreWrite (g : Grant)
  /-- DECISION_SAFE_CHANGE (R81). -/
  | decisionSafeChange (g : Grant)
  /-- VERIFY_READ (R92). -/
  | verifyRead (g : Grant)
  /-- CROSS_FRAME_ARRIVAL: the last byte of a cross-link frame; its length field is the body's length
  plus 7 (R103, R192). -/
  | crossFrameArrival (port : Port) (kind cls sender : Byte) (code : Code) (body : List Byte) (crc : BitVec 32)
  /-- CROSS_LENGTH_FIELD_BAD: a length field with this value has been received (R103). -/
  | crossLengthFieldBad (port : Port) (length : BitVec 16)
  /-- CROSS_IDLE_GAP (R103). -/
  | crossIdleGap (port : Port)
  /-- CROSS_TRANSMIT_END (R110). -/
  | crossTransmitEnd (port : Port)
  /-- DIGEST_NOTICE is taken from a port (R121). -/
  | digestNotice (port : Port)
  /-- STANDING_NOTICE is taken from a port (R130). -/
  | standingNotice (port : Port)
  /-- VOTE_TIMER_EXPIRY (R123). -/
  | voteTimerExpiry
  /-- JOIN_WAIT_EXPIRY (R143). -/
  | joinWaitExpiry
  /-- JOIN_ASK is taken from a port (R146). -/
  | joinAsk (port : Port)
  /-- JOIN_GRANT is taken from a port (R143). -/
  | joinGrant (port : Port)
  /-- JOIN_REFUSE is taken from a port (R143). -/
  | joinRefuse (port : Port)
  /-- TRANSFER_ABORT is taken from a port (R154). -/
  | transferAbort (port : Port)
  /-- DONOR_BLOCK_READ (R150). -/
  | donorBlockRead (g : Grant)
  /-- DONOR_STALL_EXPIRY (R153). -/
  | donorStallExpiry
  /-- BULK_FRAME_TAKE (R156). -/
  | bulkFrameTake
  /-- RESYNC_WRITE (R157). -/
  | resyncWrite (g : Grant)
  /-- RECEIVE_STALL_EXPIRY (R160). -/
  | receiveStallExpiry
  /-- FAILURE_FILL_WRITE (R162). -/
  | failureFillWrite (g : Grant)
  /-- LANE_START_BYTE (R176). -/
  | laneStartByte
  /-- CROSS_START_BYTE (R103). -/
  | crossStartByte (port : Port)
  /-- HEALTHY_WAVE_HALF (R191). -/
  | healthyWaveHalf
deriving DecidableEq, Repr

end Sys2Proof
end

