-- ==== Sys2Proof/WellFormed.lean ====
section
/-! DEFINITION. When the operands of a command spell an event that the links can bring (R176, R192). -/

namespace Sys2Proof

/-- A length field outside 2 to 1026 (R176). -/
def laneLengthBad (length : BitVec 16) : Bool := length.toNat < 2 || 1026 < length.toNat

/-- A length field outside 7 to 1031 (R103). -/
def crossLengthBad (length : BitVec 16) : Bool := length.toNat < 7 || 1031 < length.toNat

/-- The body sizes and the bad length fields that can occur (R176, R192); every other operand is free. -/
def Instr.wellFormed : Instr → Bool
  | .laneFrameReceived _ _ body _ => body.length ≤ 1024
  | .laneLengthFieldBad length => laneLengthBad length
  | .crossFrameArrival _ _ _ _ _ body _ => body.length ≤ 1024
  | .crossLengthFieldBad _ length => crossLengthBad length
  | .powerOnReset _ _ | .storeClearWrite | .laneIdleGap | .laneTransmitEnd | .unknownRequest | .identify
  | .status | .readStanding | .setInstallation | .setTiming | .defineTable | .clearDirectory | .startCold
  | .join | .laneReset _ | .read | .write | .writeMasked | .safeFill | .readDigests | .closeCycle | .rollback
  | .verify | .verifyStop | .faultReport | .setNoticeMask | .laneWordRead _ | .laneWordChange _
  | .closeCheckRead _ | .closeCopyAccess _ | .rollbackAccess _ | .establishingRead _
  | .establishingSafeWrite _ | .fullCopyAccess _ | .paceTick | .scrubRead _ | .decisionOtherRead _
  | .decisionClearWrite _ | .decisionRestoreWrite _ | .decisionSafeChange _ | .verifyRead _
  | .crossIdleGap _ | .crossTransmitEnd _ | .digestNotice _ | .standingNotice _ | .voteTimerExpiry
  | .joinWaitExpiry | .joinAsk _ | .joinGrant _ | .joinRefuse _ | .transferAbort _ | .donorBlockRead _
  | .donorStallExpiry | .bulkFrameTake | .resyncWrite _ | .receiveStallExpiry | .failureFillWrite _
  | .laneStartByte | .crossStartByte _ | .healthyWaveHalf => true

end Sys2Proof
end

