-- ==== Sys2Proof/Machine/State.lean ====
section
/-! DEFINITION. The state of the part as plain data, the frames its queues hold, and the state right
after power-on reset. -/

namespace Sys2Proof.Machine
open Sys2Proof

/-! ### The store and the directory -/

/-- A store word: the value last written with fresh check bits, and the bits that have turned since, of
the 22 the SRAM holds (R2, log 5). `flips = 0` is a word that reads clean. -/
structure StoredWord where
  value : Word
  flips : BitVec 22
deriving DecidableEq, Repr

/-- The store: (address, word) pairs, addresses rising, no entry equal to what an unlisted address
reads as (the value 0, clean: log 8). -/
abbrev Memory := List (Nat × StoredWord)

/-- The states of the part (R182), in the order of their codes (R192). -/
inductive PartState where
  | init
  | config
  | starting
  | active
  | joining
  | receiving
  | excluded
  | halted
deriving DecidableEq, Repr

/-- The kinds of a table (R11), in the order of their codes. -/
inductive TableKind where
  | static
  | vital
  | localKind
deriving DecidableEq, Repr

/-- A digest pair (R19); each component lies between 0 and 65520. -/
structure Pair where
  d1 : Nat
  d2 : Nat
deriving DecidableEq, Repr

/-- A table record (R11) with the digest unit's state of the table (R20). -/
structure Table where
  number : Nat
  kind : TableKind
  length : Nat
  base : Nat
  safe : Word
  merge : BitVec 4
  /-- The working pair; `none` is not established. -/
  working : Option Pair
  /-- The checkpoint pair; `none` is absent. -/
  checkpoint : Option Pair
  unsettled : Bool
deriving DecidableEq, Repr

/-- A range of a range list (R138). -/
structure Range where
  table : Nat
  first : Nat
  count : Nat
deriving DecidableEq, Repr

/-- A table number with a digest pair, as digest lists carry them (R101). -/
structure DigestEntry where
  table : Nat
  pair : Pair
deriving DecidableEq, Repr

/-- An entry of a directory summary (R11). -/
structure SummaryEntry where
  number : Nat
  kind : TableKind
  length : Nat
deriving DecidableEq, Repr

/-! ### Lanes and standings -/

inductive Lane where
  | a
  | b
  | c
deriving DecidableEq, Repr

/-- The standings (R118), in the order of their codes (R192). -/
inductive Standing where
  | unknown
  | active
  | joining
  | excluded
  | halted
deriving DecidableEq, Repr

/-- What made the last change to a standing record (R118), in the order of their codes. -/
inductive Source where
  | coldStart
  | vote
  | selfReport
  | peerReport
deriving DecidableEq, Repr

/-- A record of the standing table (R118). -/
structure StandingRecord where
  standing : Standing
  activeFrom : Option Cycle
  source : Option Source
deriving DecidableEq, Repr

/-- The standing table (R118). -/
structure Standings where
  a : StandingRecord
  b : StandingRecord
  c : StandingRecord
deriving DecidableEq, Repr

/-- An entry of a standing list (R101). -/
structure StandingEntry where
  standing : Standing
  activeFrom : Option Cycle
deriving DecidableEq, Repr

/-- A standing list (R101). -/
structure StandingList where
  a : StandingEntry
  b : StandingEntry
  c : StandingEntry
deriving DecidableEq, Repr

/-! ### Cross-link frames -/

/-- The reasons of a JOIN REFUSE (R101), in the order of their codes. -/
inductive RefuseReason where
  | notActive
  | serving
  | directoryMismatch
  | staticMismatch
deriving DecidableEq, Repr

/-- The reasons of a TRANSFER ABORT (R101). -/
inductive AbortReason where
  | sourceLost
  | updateOverflow
  | link
  | donorLeft
  | mismatch
  | stall
  | localFault
  | excludedByPeer
  | reset
deriving DecidableEq, Repr

/-- The control messages (R101). -/
inductive ControlMsg where
  | digestNotice (cycle : Cycle) (standings : StandingList) (digests : List DigestEntry)
  | standingNotice (standings : StandingList)
  | joinAsk (summary : List SummaryEntry) (statics : List DigestEntry) (ranges : List Range)
  | joinGrant (cycle : Cycle)
  | joinRefuse (reason : RefuseReason)
  | transferAbort (reason : AbortReason)
deriving DecidableEq, Repr

/-- The bulk messages (R102). A CLOSE MARK carries its digest list exactly when it is final. -/
inductive BulkMsg where
  | imageBlock (table first : Nat) (values : List Word)
  | update (table offset : Nat) (value : Word)
  | closeMark (cycle : Cycle) (final : Option (List DigestEntry))
deriving DecidableEq, Repr

/-- The two classes that take receive slots and credits (R105). -/
inductive CreditClass where
  | control
  | bulk
deriving DecidableEq, Repr

/-- A cross-link message with its class (R101, R102). -/
inductive CrossMsg where
  | credit (cls : CreditClass)
  | creditReset
  | control (msg : ControlMsg)
  | bulk (msg : BulkMsg)
deriving DecidableEq, Repr

/-- A frame of a control send queue. `opens` marks the JOIN GRANT of the transfer being served, whose
transmission must begin before the transfer can be opened (R148, log 34). -/
structure SendEntry where
  msg : ControlMsg
  opens : Bool
deriving DecidableEq, Repr

/-- A cross-link frame in transmission: the lane letter and code as held when it was begun (R100), and
its bytes (R192). `reopens` holds of a CREDIT RESET that answers the port's latest entry to DRAINING
(R110, log 17). -/
structure CrossTransmission where
  sender : Option Lane
  code : Code
  msg : CrossMsg
  bytes : List Byte
  reopens : Bool
deriving DecidableEq, Repr

/-- The receive state of a port (R100), in the order of the codes. -/
inductive ReceiveState where
  | closed
  | opened
  | draining
deriving DecidableEq, Repr

/-- The state of a cross-link port (R114). A slot IN PROCESSING is the receive record's frame. -/
structure PortState where
  rx : ReceiveState
  /-- The receiver is inside a frame (else it hunts). -/
  inside : Bool
  /-- Held control frames, oldest first. -/
  control : List ControlMsg
  /-- Held bulk frames, oldest first. -/
  bulk : List BulkMsg
  pendingControl : Nat
  pendingBulk : Nat
  outstandingControl : Nat
  outstandingBulk : Nat
  send : List SendEntry
  dropCount : Nat
  /-- The frame in transmission; `none` is an idle transmitter. -/
  tx : Option CrossTransmission
deriving DecidableEq, Repr

/-! ### Faults -/

/-- The sixteen fault kinds (R165), in the order of their numbers. -/
inductive FaultKind where
  | wordCorrected
  | workingWordRestored
  | checkpointWordRestored
  | wordCleared
  | workingWordLost
  | checkpointWordLost
  | doubleLoss
  | lostOverflow
  | copyFailure
  | digestDrift
  | linkFrameError
  | foreignFrame
  | staleNotice
  | laneFrameError
  | resyncFailed
  | transferAbandoned
deriving DecidableEq, Repr

/-- The classes of faults (R165), in the order of their codes. -/
inductive FaultClass where
  | correctable
  | recoverable
  | laneFatal
deriving DecidableEq, Repr

/-- Why a join or a resynchronisation failed (R144, R161). -/
inductive ResyncReason where
  | noDonor
  | refused (reason : RefuseReason)
  | localFault
  | mismatch
  | stall
  | donorAbort (reason : AbortReason)
  | link
  | excludedByPeer
  | reset
deriving DecidableEq, Repr

/-- The reasons of fault records (R167). -/
inductive FaultReason where
  | crc
  | format
  | overrun
  | lane
  | installation
  | resync (reason : ResyncReason)
deriving DecidableEq, Repr

/-- A fault record (R167). `lane` is absent, or `some none` for "no lane". The class follows from the kind. -/
structure FaultEntry where
  kind : FaultKind
  cycle : Cycle
  address : Option Nat
  table : Option Nat
  offset : Option Nat
  lane : Option (Option Lane)
  reason : Option FaultReason
  /-- DIGEST DRIFT: the working pair replaced and the accumulator. -/
  pairs : Option (Pair × Pair)
deriving DecidableEq, Repr

/-! ### Notices to the lane processor -/

/-- The outcomes of a vote (R125, R126). -/
inductive VoteOutcome where
  | agreed
  | otherExcluded (lane : Lane)
  | selfExcluded
  | halted
deriving DecidableEq, Repr

/-- The reasons of a VOTE NOTICE (R128). -/
inductive VoteReason where
  | differs
  | absent
  | isolated
deriving DecidableEq, Repr

/-- What decided a vote (R128). -/
inductive DecidedBy where
  | allPresent
  | timer
deriving DecidableEq, Repr

/-- A presence entry of a VOTE NOTICE (R128). -/
inductive Presence where
  | self
  | present
  | absent
  | notExpected
deriving DecidableEq, Repr

/-- A VOTE NOTICE (R128). -/
structure VoteNotice where
  cycle : Cycle
  outcome : VoteOutcome
  reason : Option VoteReason
  decidedBy : DecidedBy
  presenceA : Presence
  presenceB : Presence
  presenceC : Presence
  differing : List Nat
deriving DecidableEq, Repr

/-- The cause of a change of the own record (R119). The manual names no reason for a cold start, an
accepted JOIN and a completed resynchronisation: `unnamed` stands for it (log 18). -/
inductive StandingReason where
  | differs
  | isolated
  | excludedByPeer
  | alone
  | installationHalted
  | fault (kind : FaultKind)
  | resync (reason : ResyncReason)
  | unnamed
deriving DecidableEq, Repr

/-- Why serving ended (R154). -/
inductive ServingEnd where
  | accepted
  | joinerLeft
  | joinerAbort (reason : AbortReason)
  | link
  | sourceLost
  | updateOverflow
  | abandoned
  | donorLeft
deriving DecidableEq, Repr

/-- The outcome of a RESYNC NOTICE with the fields that come with it (R163). -/
inductive ResyncOutcome where
  | granted
  | complete (applied : Nat)
  | failedJoining (reason : ResyncReason)
  | failedReceiving (reason : ResyncReason) (applied : Nat)
  | serving (ranges : Nat)
  | servingEnded (reason : ServingEnd) (wordsSent updatesSent : Nat)
deriving DecidableEq, Repr

/-- The result of a table in a verify pass (R95); DRIFT holds the working pair replaced. -/
inductive VerifyVerdict where
  | agrees
  | drift (replaced : Pair)
  | resettled
  | skipped
deriving DecidableEq, Repr

/-- A result entry of a verify pass (R89). -/
structure VerifyResult where
  table : Nat
  verdict : VerifyVerdict
  pair : Pair
deriving DecidableEq, Repr

/-- How a verify pass ended (R97). -/
inductive VerifyOutcome where
  | complete
  | stopped
  | aborted
deriving DecidableEq, Repr

/-- What started a verify pass (R89). -/
inductive VerifyOrigin where
  | request
  | auto
deriving DecidableEq, Repr

/-- The notices for the lane processor (R180). -/
inductive Notice where
  | vote (n : VoteNotice)
  | standingChange (table : Standings) (changed : List Lane) (reason : Option StandingReason)
  | resync (lane : Option Lane) (cycle : Cycle) (outcome : ResyncOutcome)
  | verify (outcome : VerifyOutcome) (origin : VerifyOrigin) (startCycle endCycle : Cycle)
      (results : List VerifyResult) (interrupted : Option (Nat × Nat))
  /-- The record and the kind's counter after its advance (R171). -/
  | fault (entry : FaultEntry) (count : Nat)
deriving DecidableEq, Repr

/-! ### Requests and replies -/

/-- The six timings (R187), in milliseconds, microseconds and closes. -/
structure Timings where
  voteWindow : Nat
  joinWait : Nat
  stallTime : Nat
  prescale : Nat
  period : Nat
  autoVerify : Nat
deriving DecidableEq, Repr

/-- The six optional fields of SET TIMING (R187). -/
structure TimingFields where
  voteWindow : Option Nat
  joinWait : Option Nat
  stallTime : Option Nat
  prescale : Option Nat
  period : Option Nat
  autoVerify : Option Nat
deriving DecidableEq, Repr

/-- The requests of the lane processor with their fields (R192). -/
inductive Request where
  | identify
  | status
  | setInstallation (code : Code)
  | setTiming (fields : TimingFields)
  | defineTable (number : Nat) (kind : TableKind) (length : Nat) (safe : Word) (merge : Nat)
  | clearDirectory
  | startCold
  | join (version : Nat) (ranges : List Range)
  | laneReset
  | read (table first count : Nat)
  | write (table first count : Nat) (values : List Word)
  | writeMasked (table offset : Nat) (mask value : Word)
  | safeFill (table : Nat)
  | readDigests (tables : List Nat)
  | closeCycle (cycle : Cycle)
  | rollback
  | verify
  | verifyStop
  | faultReport (clear : List Bool) (clearFirst : Bool)
  | setNoticeMask (flags : List Bool)
  | readStanding
  /-- A frame whose kind code names no request (R177). -/
  | unknown
deriving DecidableEq, Repr

/-- The refusal reasons of REFUSED (R178), in the order of their codes from 1 (R192). -/
inductive RefusalReason where
  | inUse
  | merge
  | noSpace
  | static
  | running
  | notRunning
  | noLane
  | noInstallation
  | noVital
  | version
  | staticRange
  | zeroCount
  | overlap
deriving DecidableEq, Repr

/-- The reply statuses (R178), in the order of their codes (R192). -/
inductive Status where
  | done
  | queueFull
  | wrongState
  | noTable
  | range
  | refused (reason : RefusalReason)
  | lost
  | votePending
  | wrongCycle
  | unsettled
  | noCheckpoint
  | malformed
  | unknownRequest
deriving DecidableEq, Repr

/-- The kind of a close (R55), in the order of the codes. -/
inductive CloseKind where
  | full
  | partialKind
deriving DecidableEq, Repr

/-- The phases of a join record (R141). -/
inductive JoinPhase where
  | establishing
  | asking
deriving DecidableEq, Repr

/-- The phases of a receive record (R155). -/
inductive ReceivePhase where
  | applying
  | closing
  | failing
deriving DecidableEq, Repr

/-- The phases of a transfer record (R147). -/
inductive TransferPhase where
  | sending
  | finalQueued
  | awaitingVerdict
deriving DecidableEq, Repr

/-- STATUS items of a port (R184). -/
structure PortReport where
  rx : ReceiveState
  outstandingControl : Nat
  outstandingBulk : Nat
  dropCount : Nat
deriving DecidableEq, Repr

/-- STATUS items of the resync unit (R184). -/
inductive ResyncReport where
  | idle
  | donor (lane : Lane) (phase : TransferPhase) (queued : Nat)
  | receiving (donor : Lane) (phase : ReceivePhase) (marks applied : Nat)
  | joining (phase : JoinPhase) (asked : List Lane)
deriving DecidableEq, Repr

/-- The STATUS items that are absent in INIT (R184). -/
structure UnitsReport where
  cycle : Cycle
  checkpointValid : Bool
  changeCount : Nat
  wide : Bool
  lostCount : Nat
  /-- The cycle of a close in flight. -/
  close : Option Cycle
  /-- The cycle number while a rollback is in flight. -/
  rollback : Option Cycle
  confirmed : Bool
  laneHealthy : Bool
  lastVoted : Cycle
  openVote : Option Cycle
  scrubCursor : Nat
  scrubPasses : Nat
  scrubLag : Nat
  /-- The current table and cursor of a running pass. -/
  verifyAt : Option (Nat × Nat)
  autoCount : Nat
  kept : List VerifyResult
  resync : ResyncReport
deriving DecidableEq, Repr

/-- The reply fields of STATUS (R184). `units` is absent in INIT and `clearNext` outside it. -/
structure StatusReport where
  part : PartState
  lane : Option Lane
  installation : Code
  clearNext : Option Nat
  units : Option UnitsReport
  x1 : PortReport
  x2 : PortReport
  requests : Nat
  notices : Nat
  noticeDrops : Nat
  replyDrops : Nat
  timings : Timings
deriving DecidableEq, Repr

/-- An entry of the reply to READ DIGESTS (R31). -/
structure DigestReport where
  table : Nat
  working : Option Pair
  checkpoint : Option Pair
  unsettled : Bool
deriving DecidableEq, Repr

/-- The fields of a reply after its status. -/
inductive ReplyFields where
  | none
  | identity (name : String) (revision : Nat) (strap : BitVec 2) (lane : Option Lane) (installation : Code) (part : PartState)
  | status (r : StatusReport)
  | standing (table : Standings) (part : PartState) (lastVoted : Cycle) (confirmed : Bool)
      (slotX1 slotX2 : Option Cycle) (openVote : Option Cycle)
  | code (c : Code)
  | timings (t : Timings)
  | defined (base free : Nat)
  | count (n : Nat)
  /-- JOIN: the number of ranges in the expanded list (R138). -/
  | ranges (n : Nat)
  | positions (ps : List Nat)
  | started (cycle : Cycle) (checkpointValid : Bool) (words : Nat) (pairs : List DigestEntry)
  | wasReset (before : PartState) (checkpointValid : Bool) (cycle : Cycle) (dropped : Nat)
  | values (table first : Nat) (actual : Nat) (values : List Word)
  | lostWord (table offset : Nat)
  | masked (old new : Word)
  | filled (table words : Nat)
  | digests (cycle : Cycle) (checkpointValid : Bool) (entries : List DigestReport)
  | closed (cycle : Cycle) (kind : CloseKind) (words : Nat) (pairs : List DigestEntry)
  | cycle (c : Cycle)
  | lostList (words : List (Nat × Nat))
  | lostRollback (words : List (Nat × Nat)) (restored : Nat)
  | tables (numbers : List Nat)
  | verifyStarted (cycle : Cycle) (tables : Nat)
  | faults (counters : List Nat) (first : Option FaultEntry) (log : List FaultEntry) (overrun : Nat)
  | flags (fs : List Bool)
deriving DecidableEq, Repr

/-- A reply (R178): the kind code and tag of the request it answers, its status and its fields. -/
structure Reply where
  kind : Byte
  tag : Byte
  status : Status
  fields : ReplyFields
deriving DecidableEq, Repr

/-- The work of a request that stays in service (R178). -/
inductive Work where
  /-- READ: the actual count and the values read so far (R40). -/
  | read (actual : Nat) (values : List Word)
  /-- WRITE: the words written so far (R44). -/
  | write (done : Nat)
  | masked
  /-- SAFE FILL: the words written so far (R47). -/
  | fill (done : Nat)
  | close
  | rollback
  | startCold
deriving DecidableEq, Repr

/-- How far a queued request has come (R178). -/
inductive Progress where
  | waiting
  | serving (w : Work)
  | ready (r : Reply)
deriving DecidableEq, Repr

/-- A place of the request queue (R178). -/
structure RequestEntry where
  kind : Byte
  tag : Byte
  request : Request
  progress : Progress
deriving DecidableEq, Repr

/-- A frame the lane transmitter sends (R179). -/
inductive LaneOut where
  | reply (r : Reply)
  | notice (n : Notice)
deriving DecidableEq, Repr

/-- The lane frame in transmission, with its bytes (R192). -/
structure LaneTransmission where
  frame : LaneOut
  bytes : List Byte
deriving DecidableEq, Repr

/-! ### The units' records -/

/-- One value for each requester of the arbiter (R7). -/
structure PerRequester (α : Type) where
  lane : α
  cycle : α
  joiner : α
  donor : α
  verify : α
  scrub : α
deriving DecidableEq, Repr

/-- Whom the arbiter holds the store granted to between two commands (R9). -/
inductive StoreGrant where
  | free
  | storeClear
deriving DecidableEq, Repr

/-- The store actions of a loss decision still to be made (R73). -/
inductive DecisionStep where
  /-- Read the other copy of the pair (R74). -/
  | readOther
  /-- Write 0 or a safe value without a read (R76, R77, R81, R82). -/
  | clear (address : Nat) (value : Word)
  /-- Rewrite the first word with the value of the other copy (R78, R82). -/
  | restore (value : Word)
  /-- Write the safe value through the change path, old value unknown (R77, R80, R81). -/
  | safeChange (address : Nat) (value : Word)
deriving DecidableEq, Repr

/-- An open decision (R73): the store address of the word first found uncorrectable, and what is left to do. -/
structure Decision where
  first : Nat
  todo : List DecisionStep
deriving DecidableEq, Repr

/-- What an uncorrectable read has left a requester with (R73, R75). -/
inductive Loss where
  | idle
  | deciding (d : Decision)
  /-- The pair, by its working address, was in another reader's decision: the same read is asked for
  again when that decision has ended. -/
  | retrying (pair : Nat)
deriving DecidableEq, Repr

/-- A running establishing pass (R27): the position of its table in order of definition, the offset, the
partial sums, whether the safe-value write of the word at the cursor is due, and whether a write of the STARTING row
has spoiled the full copy that follows the pass (R77). -/
structure Establish where
  index : Nat
  offset : Nat
  sums : Pair
  writeDue : Bool
  spoiled : Bool
deriving DecidableEq, Repr

/-- The full checkpoint copy of START COLD (R65): the next working address and its value once read. -/
structure FullCopy where
  position : Nat
  value : Option Word
  spoiled : Bool
deriving DecidableEq, Repr

/-- Origin of a close (R55). -/
inductive CloseOrigin where
  | lane
  | mark
deriving DecidableEq, Repr

/-- Pass of a close (R55). -/
inductive ClosePass where
  | check
  | copy
deriving DecidableEq, Repr

/-- Serving note of a close (R55). -/
inductive ServingNote where
  | none
  | atEnd
  | notAtEnd
deriving DecidableEq, Repr

/-- The close record (R55), with the value read for the next copy write and whether any copy has been
written (R59, R64). -/
structure CloseRecord where
  origin : CloseOrigin
  cycle : Cycle
  kind : CloseKind
  coverCount : Nat
  pass : ClosePass
  position : Nat
  spoiled : Bool
  copyFailed : Bool
  note : ServingNote
  value : Option Word
  wroteCopy : Bool
deriving DecidableEq, Repr

/-- The rollback record (R66): whether the cover is every table word, the position, the words restored,
the checkpoint value read for the working access, whether the lost sweep has begun (R68), and the
addresses whose checkpoint copy failed (R69). -/
structure RollbackRecord where
  everyWord : Bool
  position : Nat
  restored : Nat
  value : Option Word
  sweeping : Bool
  failedCopies : List Nat
deriving DecidableEq, Repr

/-- A running verify pass (R89); `index` is the place of the current table in the walk list. The walk
state follows from the verify unit's loss state. -/
structure VerifyPass where
  origin : VerifyOrigin
  startCycle : Cycle
  walk : List Nat
  index : Nat
  cursor : Nat
  sums : Pair
  skip : Bool
  results : List VerifyResult
deriving DecidableEq, Repr

/-- A notice held in a peer slot (R117). -/
structure PeerNotice where
  cycle : Cycle
  digests : List DigestEntry
deriving DecidableEq, Repr

/-- The vote record (R117), with the length of the window its timer was started with. -/
structure VoteRecord where
  cycle : Cycle
  digests : List DigestEntry
  timer : Nat
deriving DecidableEq, Repr

/-- The join record (R141). A timer is `none` when stopped, else the time it was started with. -/
structure JoinRecord where
  ranges : List Range
  descriptor : List Range
  phase : JoinPhase
  asked : List Lane
  current : Option Lane
  last : Option Lane
  timer : Option Nat
  refusal : Option RefuseReason
deriving DecidableEq, Repr

/-- The receive record (R155), with the position of the failure fill: the place of its table among the
VITAL tables in ascending number, and the offset (R162). -/
structure ReceiveRecord where
  donor : Lane
  port : Port
  ranges : List Range
  phase : ReceivePhase
  frame : Option (BulkMsg × Nat)
  stall : Option Nat
  marks : Nat
  applied : Nat
  failure : Option ResyncReason
  fillTable : Nat
  fillOffset : Nat
deriving DecidableEq, Repr

/-- The IMAGE BLOCK in assembly (R147). -/
structure Block where
  table : Nat
  first : Nat
  values : List Word
  complete : Bool
deriving DecidableEq, Repr

/-- The transfer record (R147). The cursor is a place in the range list and an offset within that range;
END is the place past the last range. Whether the stall timer runs follows from the state (R153). -/
structure TransferRecord where
  lane : Lane
  port : Port
  ranges : List Range
  cursorRange : Nat
  cursorOffset : Nat
  phase : TransferPhase
  opened : Bool
  /-- The transmission of the JOIN GRANT has begun (R148). -/
  grantBegun : Bool
  block : Option Block
  queue : List BulkMsg
  wordsSent : Nat
  updatesSent : Nat
deriving DecidableEq, Repr

/-! ### The state -/

/-- The whole state of the part and the queue of commands that wait. -/
structure State where
  part : PartState
  /-- The strap code sampled at power-on (R182). -/
  strap : BitVec 2
  installation : Code
  timings : Timings
  store : Memory
  /-- The next address the store clear writes, in INIT (R5, R184). -/
  clearNext : Nat
  storeGrant : StoreGrant
  /-- Whether each requester has an access waiting (R7). -/
  waiting : PerRequester Bool
  loss : PerRequester Loss
  tables : List Table
  establish : Option Establish
  fullCopy : Option FullCopy
  cycle : Cycle
  changeList : List Nat
  wide : Bool
  checkpointValid : Bool
  lostList : List Nat
  close : Option CloseRecord
  rollback : Option RollbackRecord
  scrubCursor : Nat
  scrubPasses : Nat
  scrubLag : Nat
  /-- The pace counter: `none` when not running, else the tick interval in force (R84, log 4). -/
  pace : Option Nat
  verify : Option VerifyPass
  kept : List VerifyResult
  autoCount : Nat
  standings : Standings
  slotX1 : Option PeerNotice
  slotX2 : Option PeerNotice
  vote : Option VoteRecord
  lastVoted : Cycle
  confirmed : Bool
  /-- The level of the HEALTHY pin (R191). -/
  healthyPin : Bool
  join : Option JoinRecord
  receive : Option ReceiveRecord
  transfer : Option TransferRecord
  x1 : PortState
  x2 : PortState
  /-- The lane receiver is inside a frame (else it hunts) (R176). -/
  laneInside : Bool
  requests : List RequestEntry
  immediate : List Reply
  notices : List Notice
  noticeDrops : Nat
  replyDrops : Nat
  laneTx : Option LaneTransmission
  counters : List Nat
  masks : List Bool
  log : List FaultEntry
  overrun : Nat
  first : Option FaultEntry
  /-- The commands that wait, first in, first out. -/
  pending : List Instr
deriving DecidableEq, Repr

/-! ### The outcomes that are not a next state -/

/-- The block never stops with a fault: every fault of the manual is a record and an effect on the state.
The type has no constructor. -/
inductive Fault where
deriving DecidableEq, Repr

/-- Why a command is refused. -/
inductive Refusal where
  /-- Raised by an arm of `exec` for a command that has no meaning yet; safe. No arm raises it now. -/
  | notModelled (mnemonic : String)
deriving DecidableEq, Repr

/-! ### The state after power-on reset -/

/-- A port after power-on reset (R114). -/
def PortState.powerOn : PortState :=
  { rx := .closed, inside := false, control := [], bulk := [], pendingControl := 0, pendingBulk := 0,
    outstandingControl := 0, outstandingBulk := 0, send := [], dropCount := 0, tx := none }

/-- The default timings (R187). -/
def Timings.default : Timings :=
  { voteWindow := 500, joinWait := 250, stallTime := 1000, prescale := 16, period := 99, autoVerify := 0 }

/-- The default masks (R165): masked are the kinds 0 to 3, 10, 12 and 13. -/
def defaultMasks : List Bool :=
  [true, true, true, true, false, false, false, false, false, false, true, false, true, true, false, false]

/-- A standing record that has not changed since power-on (R117, R118). -/
def StandingRecord.powerOn (standing : Standing) : StandingRecord :=
  { standing, activeFrom := none, source := none }

/-- The standing table after power-on (R117): peers UNKNOWN, own record EXCLUDED; a part with no lane holds
all three UNKNOWN. -/
def Standings.powerOn (strap : BitVec 2) : Standings :=
  { a := .powerOn (if strap = 0 then .excluded else .unknown)
    b := .powerOn (if strap = 1 then .excluded else .unknown)
    c := .powerOn (if strap = 2 then .excluded else .unknown) }

/-- The part as it leaves power-on reset with these strap pins (R182 and the reset tables of R84, R89, R114,
R117, R164, R175, R181), over a store that holds `store`. -/
def State.powerOn (strap : BitVec 2) (store : Memory) (pending : List Instr) : State :=
  { part := .init, strap, installation := 0, timings := .default, store, clearNext := 0
    storeGrant := .storeClear
    waiting := { lane := false, cycle := false, joiner := false, donor := false, verify := false, scrub := false }
    loss := { lane := .idle, cycle := .idle, joiner := .idle, donor := .idle, verify := .idle, scrub := .idle }
    tables := [], establish := none, fullCopy := none
    cycle := 0, changeList := [], wide := false, checkpointValid := false, lostList := []
    close := none, rollback := none
    scrubCursor := 0, scrubPasses := 0, scrubLag := 0, pace := none
    verify := none, kept := [], autoCount := 0
    standings := .powerOn strap, slotX1 := none, slotX2 := none, vote := none, lastVoted := 0
    confirmed := false, healthyPin := false
    join := none, receive := none, transfer := none
    x1 := .powerOn, x2 := .powerOn
    laneInside := false, requests := [], immediate := [], notices := [], noticeDrops := 0, replyDrops := 0
    laneTx := none
    counters := List.replicate 16 0, masks := defaultMasks, log := [], overrun := 0, first := none
    pending }

/-- The machine right after reset: strapped as lane A (log 9), nothing listed in the store (log 8). -/
def State.reset : State := State.powerOn 0 [] []

end Sys2Proof.Machine
end

