-- ==== Sys2Proof/Machine/Ops.lean ====
section
/-! DEFINITION. The shared operations: the store and its reads and writes (R1 to R6), places that come once per
requester or per port, counters, the directory, the digest arithmetic (R19 to R22), the change and lost lists,
and the queues of replies, notices and control frames. -/

namespace Sys2Proof.Machine
open Sys2Proof

/-! ### Store words -/

/-- A word written with fresh check bits (R2). -/
def StoredWord.fresh (v : Word) : StoredWord := { value := v, flips := 0 }

/-- What an unlisted address reads as (log 8). -/
def StoredWord.unlisted : StoredWord := .fresh 0

/-- How many bits of a word have turned. -/
def bitCount (flips : BitVec 22) : Nat :=
  (List.range 22).countP fun i => flips.getLsbD i

/-- The result of reading a word (R3): none turned, clean; one, corrected; two, uncorrectable; three or more, any
of the three (R4, log 7). -/
def StoredWord.read (w : StoredWord) : ReadResult :=
  match bitCount w.flips with
  | 0 => .clean w.value
  | 1 => .corrected w.value
  | 2 => .uncorrectable
  | _ => Config.multiBitRead w.value w.flips

/-- The word after a read has been acted on: a corrected word is written back (R3), a value taken in error is the
word's value from then on (R4), an uncorrectable word stays as it is. -/
def StoredWord.afterRead (w : StoredWord) : StoredWord :=
  match w.read with
  | .clean v | .corrected v => .fresh v
  | .uncorrectable => w

/-- The word at an address. -/
def Memory.get (m : Memory) (a : Nat) : StoredWord :=
  match m with
  | [] => .unlisted
  | (b, w) :: rest => if a = b then w else Memory.get rest a

/-- The store with a word put at an address, in the canonical form. -/
def Memory.set (m : Memory) (a : Nat) (w : StoredWord) : Memory :=
  match m with
  | [] => if w = .unlisted then [] else [(a, w)]
  | (b, v) :: rest =>
    if a < b then (if w = .unlisted then (b, v) :: rest else (a, w) :: (b, v) :: rest)
    else if a = b then (if w = .unlisted then rest else (a, w) :: rest)
    else (b, v) :: Memory.set rest a w

/-- The addresses lie above `low` and rise, and no entry equals what an unlisted address reads as. -/
def Memory.wfAbove (low : Nat) (m : Memory) : Bool :=
  match m with
  | [] => true
  | (b, w) :: rest => low ≤ b && w != .unlisted && Memory.wfAbove (b + 1) rest

/-- The canonical form of the store. -/
def Memory.wf (m : Memory) : Bool := Memory.wfAbove 0 m

/-! ### Requesters and ports -/

/-- The value held for a requester. -/
def PerRequester.get {α : Type} (p : PerRequester α) : Requester → α
  | .lane => p.lane
  | .cycle => p.cycle
  | .joiner => p.joiner
  | .donor => p.donor
  | .verify => p.verify
  | .scrub => p.scrub

/-- The value of one requester replaced. -/
def PerRequester.set {α : Type} (p : PerRequester α) (r : Requester) (v : α) : PerRequester α :=
  match r with
  | .lane => { p with lane := v }
  | .cycle => { p with cycle := v }
  | .joiner => { p with joiner := v }
  | .donor => { p with donor := v }
  | .verify => { p with verify := v }
  | .scrub => { p with scrub := v }

/-- The requesters by position (R7). -/
def requesters : List Requester := [.lane, .cycle, .joiner, .donor, .verify, .scrub]

/-- The state of a port. -/
def State.port (s : State) : Port → PortState
  | .x1 => s.x1
  | .x2 => s.x2

/-- The state of one port replaced. -/
def State.setPort (s : State) (p : Port) (v : PortState) : State :=
  match p with
  | .x1 => { s with x1 := v }
  | .x2 => { s with x2 := v }

/-- The other port. -/
def otherPort : Port → Port
  | .x1 => .x2
  | .x2 => .x1

/-- The loss state of one requester replaced. -/
def State.setLoss (s : State) (r : Requester) (l : Loss) : State := { s with loss := s.loss.set r l }

/-- The join record replaced. -/
def State.setJoin (s : State) (j : JoinRecord) : State := { s with join := some j }

/-- The receive record replaced. -/
def State.setReceive (s : State) (r : ReceiveRecord) : State := { s with receive := some r }

/-- The transfer record replaced. -/
def State.setTransfer (s : State) (t : TransferRecord) : State := { s with transfer := some t }

/-- The close record replaced. -/
def State.setClose (s : State) (c : CloseRecord) : State := { s with close := some c }

/-- The rollback record replaced. -/
def State.setRollback (s : State) (r : RollbackRecord) : State := { s with rollback := some r }

/-- The verify pass record replaced. -/
def State.setVerify (s : State) (v : VerifyPass) : State := { s with verify := some v }

/-- A requester withdraws its waiting access and ends its decision where it stands (R9, R74). -/
def State.withdraw (s : State) (r : Requester) : State :=
  { s with waiting := s.waiting.set r false, loss := s.loss.set r .idle }

/-- A counter that stays at its largest value. -/
def saturate (max n : Nat) : Nat := if n < max then n + 1 else max

/-- A count raised by `k`, staying at its largest value. -/
def saturateBy (max n k : Nat) : Nat := min max (n + k)

/-! ### The directory -/

/-- The total length of the defined tables (R11). -/
def State.totalLength (s : State) : Nat := (s.tables.map (·.length)).sum

/-- The record of a table number (R12). -/
def State.table? (s : State) (n : Nat) : Option Table := s.tables.find? (·.number == n)

/-- Whether a working address lies in a table. -/
def Table.covers (t : Table) (a : Nat) : Bool := t.base ≤ a && a < t.base + t.length

/-- The table that a working address belongs to (R1). -/
def State.tableAt (s : State) (a : Nat) : Option Table := s.tables.find? (·.covers a)

/-- The working address of a store address's pair (R1). -/
def pairOf (address : Nat) : Nat :=
  if address < Config.workingWords then address else address - Config.workingWords

/-- The checkpoint copy of a working address (R1). -/
def copyOf (a : Nat) : Nat := a + Config.workingWords

/-- The other copy of the pair of a store address. -/
def otherCopy (address : Nat) : Nat :=
  if address < Config.workingWords then copyOf address else pairOf address

/-- The tables with one changed, by number. -/
def State.mapTable (s : State) (n : Nat) (f : Table → Table) : State :=
  { s with tables := s.tables.map fun t => if t.number = n then f t else t }

/-- The table and offset of a working address, as replies name a word. -/
def State.wordName (s : State) (a : Nat) : Option (Nat × Nat) :=
  (s.tableAt a).map fun t => (t.number, a - t.base)

/-- The lost list as (table, offset) pairs in list order (R54). -/
def State.lostNames (s : State) : List (Nat × Nat) := s.lostList.filterMap s.wordName

/-- Whether the lost list holds a word of the table. -/
def State.lostIn (s : State) (t : Table) : Bool := s.lostList.any t.covers

/-- Insertion by table number, for lists that ascend by number. -/
def insertTable (t : Table) : List Table → List Table
  | [] => [t]
  | u :: rest => if t.number ≤ u.number then t :: u :: rest else u :: insertTable t rest

/-- Tables in ascending number. -/
def sortTables : List Table → List Table
  | [] => []
  | t :: rest => insertTable t (sortTables rest)

/-- The tables of the kinds chosen, in ascending number. -/
def State.tablesOf (s : State) (keep : TableKind → Bool) : List Table :=
  sortTables (s.tables.filter fun t => keep t.kind)

/-- The working pairs of the tables of the kinds chosen, in ascending number (R101). -/
def State.workingPairs (s : State) (keep : TableKind → Bool) : List DigestEntry :=
  (s.tablesOf keep).filterMap fun t => t.working.map fun p => { table := t.number, pair := p }

/-- The checkpoint pairs of the tables of the kinds chosen, in ascending number (R102). -/
def State.checkpointPairs (s : State) (keep : TableKind → Bool) : List DigestEntry :=
  (s.tablesOf keep).filterMap fun t => t.checkpoint.map fun p => { table := t.number, pair := p }

def TableKind.isVital (k : TableKind) : Bool := k = .vital
def TableKind.isStatic (k : TableKind) : Bool := k = .static
/-- STATIC and VITAL tables: those a verify pass walks (R90) and a final CLOSE MARK carries (R102). -/
def TableKind.walked (k : TableKind) : Bool := k ≠ .localKind
/-- VITAL and LOCAL tables: those an empty range list stands for (R139). -/
def TableKind.served (k : TableKind) : Bool := k ≠ .static

/-- The directory summary (R11). -/
def State.summary (s : State) : List SummaryEntry :=
  s.tables.map fun t => { number := t.number, kind := t.kind, length := t.length }

/-! ### The digest arithmetic -/

/-- The seed of a table (R19). -/
def Table.seed (t : Table) : Pair := { d1 := t.number + 1, d2 := t.length }

/-- A pair with the word of offset `k` and value `v` taken in (R28). -/
def Pair.addWord (p : Pair) (k : Nat) (v : Word) : Pair :=
  let r := v.toNat % Config.digestModulus
  { d1 := (p.d1 + r) % Config.digestModulus
    d2 := (p.d2 + (k + 1) * r % Config.digestModulus) % Config.digestModulus }

/-- The difference of two values as the digest sees it, lifted into 0 to 65520 (R21). -/
def delta (old new : Word) : Nat :=
  let o := old.toNat % Config.digestModulus
  let n := new.toNat % Config.digestModulus
  if n < o then n + Config.digestModulus - o else n - o

/-- A pair with the difference `d` of the word of offset `k` taken in (R21). -/
def Pair.addDelta (p : Pair) (k d : Nat) : Pair :=
  { d1 := (p.d1 + d) % Config.digestModulus
    d2 := (p.d2 + (k + 1) * d % Config.digestModulus) % Config.digestModulus }

/-- The digest of words in offset order, from scratch (R19). -/
def digestOf (number length : Nat) (words : List Word) : Pair :=
  (words.zipIdx).foldl (fun p vk => p.addWord vk.2 vk.1) { d1 := number + 1, d2 := length }

/-! ### Cycle numbers -/

/-- The successor of a cycle number (R49). -/
def successor (c : Cycle) : Cycle := if c = BitVec.allOnes 32 then 1 else c + 1

/-- Serial comparison: `m` is later than `c` (R49). -/
def later (m c : Cycle) : Bool := 1 ≤ (m - c).toNat && (m - c).toNat ≤ 2147483647

/-! ### The change list and the lost list -/

/-- A change-list entry for a working address (R36). -/
def State.enterChange (s : State) (a : Nat) : State :=
  if s.changeList.contains a || s.wide then s
  else if s.changeList.length < Config.changeListMax then { s with changeList := s.changeList ++ [a] }
  else { s with wide := true }

/-- Whether the word's checkpoint copy may differ from it (R74). -/
def State.listed (s : State) (a : Nat) : Bool := s.changeList.contains a || s.wide

/-- Whether a working address is on the lost list. -/
def State.isLost (s : State) (a : Nat) : Bool := s.lostList.contains a

/-- A working address leaves the lost list (R34). -/
def State.unlose (s : State) (a : Nat) : State := { s with lostList := s.lostList.erase a }

/-- The unsettled flag of a table is set (R24). -/
def State.unsettle (s : State) (n : Nat) : State := s.mapTable n fun t => { t with unsettled := true }

/-- The numbers of the unsettled tables in ascending order (R54). -/
def State.unsettledTables (s : State) : List Nat :=
  (sortTables (s.tables.filter (·.unsettled))).map (·.number)

/-! ### Replies and notices -/

/-- The place of the request in service (R178): the oldest whose reply is not ready. -/
def inService : List RequestEntry → Option RequestEntry
  | [] => none
  | e :: rest =>
    match e.progress with
    | .ready _ => inService rest
    | _ => some e

/-- The request queue with the progress of the request in service replaced. -/
def setProgress (p : Progress) : List RequestEntry → List RequestEntry
  | [] => []
  | e :: rest =>
    match e.progress with
    | .ready _ => e :: setProgress p rest
    | _ => { e with progress := p } :: rest

/-- The request in service. -/
def State.serving? (s : State) : Option RequestEntry := inService s.requests

/-- The request in service goes on with its work. -/
def State.work (s : State) (w : Work) : State := { s with requests := setProgress (.serving w) s.requests }

/-- The reply of the request in service becomes ready (R178). -/
def State.answer (s : State) (st : Status) (f : ReplyFields) : State :=
  match s.serving? with
  | some e =>
    { s with requests := setProgress (.ready { kind := e.kind, tag := e.tag, status := st, fields := f }) s.requests }
  | none => s

/-- An immediate reply (R179): dropped and counted when the immediate queue holds 4. -/
def State.answerAtOnce (s : State) (kind tag : Byte) (st : Status) : State :=
  if s.immediate.length < Config.immediateQueueMax then
    { s with immediate := s.immediate ++ [{ kind, tag, status := st, fields := .none }] }
  else { s with replyDrops := saturate Config.counterMax s.replyDrops }

def Notice.isFault : Notice → Bool
  | .fault _ _ => true
  | _ => false

/-- The queue without its oldest FAULT NOTICE. -/
def dropOldestFault : List Notice → List Notice
  | [] => []
  | n :: rest => if n.isFault then rest else n :: dropOldestFault rest

/-- A notice is queued for the lane processor (R180). -/
def State.notify (s : State) (n : Notice) : State :=
  if s.notices.length < Config.noticeQueueMax then { s with notices := s.notices ++ [n] }
  else if !n.isFault && s.notices.any Notice.isFault then
    { s with notices := dropOldestFault s.notices ++ [n], noticeDrops := saturate Config.counterMax s.noticeDrops }
  else { s with noticeDrops := saturate Config.counterMax s.noticeDrops }

/-- A control frame is queued on a port's control send queue (R109). -/
def PortState.queue (p : PortState) (e : SendEntry) : PortState :=
  if p.send.length < Config.controlSendMax then { p with send := p.send ++ [e] }
  else { p with send := p.send.tail ++ [e], dropCount := saturate Config.counterMax p.dropCount }

/-- A control message is queued on a port. -/
def State.sendControl (s : State) (p : Port) (m : ControlMsg) : State :=
  s.setPort p ((s.port p).queue { msg := m, opens := false })

/-! ### Fault records -/

/-- The kind number (R165). -/
def FaultKind.number : FaultKind → Nat
  | .wordCorrected => 0
  | .workingWordRestored => 1
  | .checkpointWordRestored => 2
  | .wordCleared => 3
  | .workingWordLost => 4
  | .checkpointWordLost => 5
  | .doubleLoss => 6
  | .lostOverflow => 7
  | .copyFailure => 8
  | .digestDrift => 9
  | .linkFrameError => 10
  | .foreignFrame => 11
  | .staleNotice => 12
  | .laneFrameError => 13
  | .resyncFailed => 14
  | .transferAbandoned => 15

/-- The class of a kind (R165). -/
def FaultKind.class : FaultKind → FaultClass
  | .workingWordLost | .checkpointWordLost | .resyncFailed => .recoverable
  | .doubleLoss | .lostOverflow | .copyFailure | .digestDrift => .laneFatal
  | .wordCorrected | .workingWordRestored | .checkpointWordRestored | .wordCleared | .linkFrameError
  | .foreignFrame | .staleNotice | .laneFrameError | .transferAbandoned => .correctable

/-- A log with an entry appended, and the overrun count (R169). -/
def appendLog (log : List FaultEntry) (overrun : Nat) (e : FaultEntry) : List FaultEntry × Nat :=
  if log.length < Config.faultLogMax then (log ++ [e], overrun)
  else (log.tail ++ [e], saturate 255 overrun)

/-- Steps 1 to 4 of recording a fault (R166): counter, log, first-fault record, and the FAULT NOTICE of an
unmasked kind. -/
def State.logFault (s : State) (e : FaultEntry) : State :=
  let k := e.kind.number
  let count := saturate Config.counterMax (s.counters.getD k 0)
  let (log, overrun) := appendLog s.log s.overrun e
  let s1 := { s with counters := s.counters.set k count, log, overrun, first := s.first.or (some e) }
  if s.masks.getD k false then s1 else s1.notify (.fault e count)

/-- A fault record with no field but the kind and the part's cycle number (R167). -/
def State.bareFault (s : State) (k : FaultKind) : FaultEntry :=
  { kind := k, cycle := s.cycle, address := none, table := none, offset := none, lane := none, reason := none,
    pairs := none }

/-- The record of a fault of the store word at an address (R167). -/
def State.wordFault (s : State) (k : FaultKind) (address : Nat) : FaultEntry :=
  let name := s.wordName (pairOf address)
  { s.bareFault k with address := some address, table := name.map (·.1), offset := name.map (·.2) }

/-! ### Reads and writes of the store -/

/-- A write without a read: the value with fresh check bits (R2, R6). -/
def State.writeWord (s : State) (address : Nat) (v : Word) : State :=
  { s with store := s.store.set address (.fresh v) }

/-- The word at an address with the disturbance that has reached it since its last access (log 6). -/
def State.disturb (s : State) (address : Nat) (upset : BitVec 22) : State :=
  let w := s.store.get address
  { s with store := s.store.set address { w with flips := w.flips ^^^ upset } }

/-- A read of one word (R3): the value, `none` when uncorrectable; a corrected word is written back and WORD
CORRECTED recorded, within the access. -/
def State.readWord (s : State) (address : Nat) (upset : BitVec 22) : State × Option Word :=
  let s1 := s.disturb address upset
  let w := s1.store.get address
  let s2 := { s1 with store := s1.store.set address w.afterRead }
  match w.read with
  | .clean v => (s2, some v)
  | .corrected v => (s2.logFault (s2.wordFault .wordCorrected address), some v)
  | .uncorrectable => (s2, none)

end Sys2Proof.Machine
end

