-- ==== Sys2Proof/Machine/Flags.lean ====
section
/-! DEFINITION. Conditions read off the state: the lane letter and the peers (R100), LANE-HEALTHY (R137), what is in
flight, which changes are held (R56), the next access of each requester and the arbiter's choice (R7). -/

namespace Sys2Proof.Machine
open Sys2Proof

/-! ### Lanes -/

/-- The lane letter of a strap code (R182). -/
def laneOf (strap : BitVec 2) : Option Lane :=
  if strap = 0 then some .a else if strap = 1 then some .b else if strap = 2 then some .c else none

/-- The part's own lane. -/
def State.ownLane (s : State) : Option Lane := laneOf s.strap

/-- The next lane of the ring (R100). -/
def Lane.next : Lane → Lane
  | .a => .b
  | .b => .c
  | .c => .a

/-- The previous lane of the ring (R100). -/
def Lane.previous : Lane → Lane
  | .a => .c
  | .b => .a
  | .c => .b

/-- The peer a port faces, by the lane letter (R100). -/
def peerOf (own : Lane) : Port → Lane
  | .x1 => own.next
  | .x2 => own.previous

/-- The expected peer of a port (R100); a part with no lane has none. -/
def State.peer (s : State) (p : Port) : Option Lane := s.ownLane.map fun l => peerOf l p

/-- The port that faces a lane. -/
def State.portOf (s : State) (l : Lane) : Option Port :=
  if s.peer .x1 = some l then some .x1 else if s.peer .x2 = some l then some .x2 else none

/-- The record of a lane (R118). -/
def Standings.get (t : Standings) : Lane → StandingRecord
  | .a => t.a
  | .b => t.b
  | .c => t.c

/-- The record of a lane replaced. -/
def Standings.set (t : Standings) (l : Lane) (r : StandingRecord) : Standings :=
  match l with
  | .a => { t with a := r }
  | .b => { t with b := r }
  | .c => { t with c := r }

/-- The entry of a lane in a standing list (R101). -/
def StandingList.get (t : StandingList) : Lane → StandingEntry
  | .a => t.a
  | .b => t.b
  | .c => t.c

/-- The standing of a lane. -/
def State.standingOf (s : State) (l : Lane) : Standing := (s.standings.get l).standing

/-- How many lanes the table holds ACTIVE (R134). -/
def Standings.activeCount (t : Standings) : Nat :=
  [Lane.a, Lane.b, Lane.c].countP fun l => (t.get l).standing == .active

/-- The standing that mirrors a part state (R118). -/
def PartState.standing : PartState → Standing
  | .active => .active
  | .joining | .receiving => .joining
  | .halted => .halted
  | .init | .config | .starting | .excluded => .excluded

/-- The slot of the peer that a port faces (R117). -/
def State.slot (s : State) : Port → Option PeerNotice
  | .x1 => s.slotX1
  | .x2 => s.slotX2

/-- The slot of the peer that a port faces, replaced. -/
def State.setSlot (s : State) (p : Port) (n : Option PeerNotice) : State :=
  match p with
  | .x1 => { s with slotX1 := n }
  | .x2 => { s with slotX2 := n }

/-- LANE-HEALTHY is asserted (R137). -/
def State.laneHealthy (s : State) : Bool := s.part = .active && s.confirmed

/-! ### What is in flight -/

/-- A close or rollback is in flight (R56). -/
def State.copying (s : State) : Bool := s.close.isSome || s.rollback.isSome

/-- The five states in which the restoring rows of the loss decision table apply (R78). -/
def PartState.running : PartState → Bool
  | .active | .excluded | .joining | .receiving | .halted => true
  | .init | .config | .starting => false

/-- Whether a port holds a frame IN PROCESSING (R107): the receive record's frame. -/
def State.portProcessing (s : State) (p : Port) : Bool :=
  match s.receive with
  | some r => r.port = p && r.frame.isSome
  | none => false

/-- The pair another requester's open decision is on, if it is on this pair (R75). -/
def Loss.decidesOn (l : Loss) (pair : Nat) : Bool :=
  match l with
  | .deciding d => pairOf d.first = pair
  | _ => false

/-- Whether a requester other than `r` holds a decision on the pair (R75). -/
def State.decidedByOther (s : State) (r : Requester) (pair : Nat) : Bool :=
  requesters.any fun q => q ≠ r && (s.loss.get q).decidesOn pair

/-- Whether a decision has a change of a working word still to make. -/
def Loss.willChange : Loss → Bool
  | .deciding d => d.todo.any fun st => match st with
    | .safeChange _ _ => true
    | _ => false
  | _ => false

/-- Whether a decision on the pair held by another requester than the cycle unit has a change to make (R56). -/
def State.changeDueOn (s : State) (pair : Nat) : Bool :=
  requesters.any fun q => q ≠ .cycle && (s.loss.get q).decidesOn pair && (s.loss.get q).willChange

/-- Whether a decision is at a change of a working word: its next access (R56). -/
def Loss.atChange : Loss → Bool
  | .deciding d => match d.todo with
    | .safeChange _ _ :: _ => true
    | _ => false
  | _ => false

/-- Whether another requester's decision on the pair stands at its change, which a rollback holds back (R56). -/
def State.changeHeldOn (s : State) (pair : Nat) : Bool :=
  requesters.any fun q => q ≠ .cycle && (s.loss.get q).decidesOn pair && (s.loss.get q).atChange

/-- A change of a decision on this pair is held back (R56): a close or rollback is in flight, another requester
would make the change, and the close or rollback does not itself wait for the pair (log 26). -/
def State.held (s : State) (r : Requester) (pair : Nat) : Bool :=
  r ≠ .cycle && s.copying && s.loss.cycle ≠ .retrying pair

/-! ### The arbiter -/

/-- The accesses a requester can ask for, as the table's grant commands name them. -/
inductive Access where
  | laneRead
  | laneChange
  | closeCheck
  | closeCopy
  | rollback
  | establishRead
  | establishWrite
  | fullCopy
  | resyncWrite
  | failureFill
  | donorRead
  | verifyRead
  | scrubRead
  | decisionOther
  | decisionClear
  | decisionRestore
  | decisionSafe
deriving DecidableEq, Repr

/-- The next access of a requester's ordinary work; `none` when it has none or a change is held (R56). -/
def State.ordinary (s : State) : Requester → Option Access
  | .lane =>
    match s.serving? with
    | some e =>
      match e.progress with
      | .serving (.read _ _) => some .laneRead
      | .serving (.write _) | .serving .masked | .serving (.fill _) => if s.copying then none else some .laneChange
      | _ => none
    | none => none
  | .cycle =>
    match s.close, s.rollback, s.establish, s.fullCopy with
    | some c, _, _, _ => some (if c.pass = .check then .closeCheck else .closeCopy)
    | none, some _, _, _ => some .rollback
    | none, none, some e, _ => some (if e.writeDue then .establishWrite else .establishRead)
    | none, none, none, some _ => some .fullCopy
    | none, none, none, none => none
  | .joiner =>
    match s.receive with
    | some r =>
      if s.copying then none
      else
        match r.phase, r.frame with
        | .failing, _ => some .failureFill
        | .applying, some (.imageBlock _ _ _, _) | .applying, some (.update _ _ _, _) => some .resyncWrite
        | _, _ => none
    | none => none
  | .donor =>
    match s.transfer with
    | some t =>
      match t.block with
      | some b => if b.complete then none else some .donorRead
      | none => none
    | none => none
  | .verify => if s.verify.isSome then some .verifyRead else none
  | .scrub => if s.waiting.scrub then some .scrubRead else none

/-- The next access of a requester: of its decision while it holds one (R10), of its ordinary work else; none while
it waits for another reader's decision (R75) or a change is held (R56). -/
def State.nextAccess (s : State) (r : Requester) : Option Access :=
  match s.loss.get r with
  | .idle => s.ordinary r
  | .retrying pair => if s.decidedByOther r pair then none else s.ordinary r
  | .deciding d =>
    match d.todo with
    | [] => s.ordinary r
    | .readOther :: _ => some .decisionOther
    | .clear _ _ :: _ => some .decisionClear
    | .restore _ :: _ => some .decisionRestore
    | .safeChange _ _ :: _ => if s.held r (pairOf d.first) then none else some .decisionSafe

/-- The word of the lane request's next access. -/
def State.laneWord (s : State) : Option Nat :=
  match s.serving? with
  | some e =>
    match e.request, e.progress with
    | .read t first _, .serving (.read _ values) => (s.table? t).map fun u => u.base + first + values.length
    | .write t first _ _, .serving (.write done) => (s.table? t).map fun u => u.base + first + done
    | .writeMasked t offset _ _, .serving .masked => (s.table? t).map fun u => u.base + offset
    | .safeFill t, .serving (.fill done) => (s.table? t).map fun u => u.base + done
    | _, _ => none
  | none => none

/-- The covered word at a position: of every table word in ascending address, or of the change list (R55, R66). -/
def State.coverAt (s : State) (everyWord : Bool) (position : Nat) : Option Nat :=
  if everyWord then (if position < s.totalLength then some position else none) else s.changeList[position]?

/-- The covered word at the position of a close (R55). -/
def State.closeWord (s : State) (c : CloseRecord) : Option Nat :=
  if c.kind = .full then s.coverAt true c.position
  else if c.position < c.coverCount then s.coverAt false c.position else none

/-- The word at the verify cursor (R92). -/
def State.verifyWord (s : State) (v : VerifyPass) : Option Nat :=
  match v.walk[v.index]? with
  | some n => (s.table? n).map fun t => t.base + v.cursor
  | none => none

/-- The word the block in assembly reads next (R149). -/
def State.blockWord (s : State) (b : Block) : Option Nat :=
  (s.table? b.table).map fun t => t.base + b.first + b.values.length

/-- The next word of a requester that looks at the lost list before it asks for the word's read (R41, R46, R58, R59,
R92, R150). -/
def State.lookWord (s : State) : Requester → Option Nat
  | .lane =>
    match s.serving? with
    | some e =>
      match e.progress with
      | .serving (.read _ _) | .serving .masked => s.laneWord
      | _ => none
    | none => none
  | .cycle =>
    match s.close with
    | some c => if c.value.isSome then none else s.closeWord c
    | none => none
  | .donor =>
    match s.transfer with
    | some t => t.block.bind s.blockWord
    | none => none
  | .verify => s.verify.bind s.verifyWord
  | .joiner | .scrub => none

/-- A requester's ordinary work comes next: it holds no decision, and waits for no other reader's (R73, R75). -/
def State.atWork (s : State) (r : Requester) : Bool :=
  match s.loss.get r with
  | .idle => true
  | .retrying pair => !s.decidedByOther r pair
  | .deciding _ => false

/-- The current table of the pass is to end SKIPPED: the skip flag is set (R89). -/
def State.skipDue (s : State) : Bool := s.verify.any (·.skip)

/-- A requester that is about to ask asks for no read: its next word is on the lost list (R75, log 11), or the verify
unit finds the skip flag of its pass set (R92, R94). -/
def State.looksLost (s : State) (r : Requester) : Bool :=
  s.atWork r && !s.waiting.get r
    && ((match s.lookWord r with | some a => s.isLost a | none => false) || (r = .verify && s.skipDue))

/-- The requesters named ask for their next access, where they have one (R7). -/
def State.ask (s : State) : List Requester → State
  | [] => s
  | r :: rest =>
    State.ask
      (if (s.nextAccess r).isSome && !s.looksLost r then { s with waiting := s.waiting.set r true } else s) rest

/-- The waiting access of the lowest position (R7). -/
def State.firstWaiting (s : State) : Option Requester :=
  requesters.find? fun r => s.waiting.get r && (s.nextAccess r).isSome

/-- The arbiter's next grant after the asks of `g`, if it grants an access of this kind: the requester, and the
state with its access no longer waiting. In INIT the store clear holds the store (R9). -/
def State.grant (s : State) (g : Grant) (access : Access) : Option (Requester × State) :=
  match s.storeGrant with
  | .storeClear => none
  | .free =>
    let s1 := s.ask g.asks
    match s1.firstWaiting with
    | some r =>
      if s1.nextAccess r = some access then some (r, { s1 with waiting := s1.waiting.set r false }) else none
    | none => none

/-! ### The scrub unit's and the donor's derived states -/

/-- The states of the scrub unit (R86). -/
inductive ScrubState where
  | stopped
  | idle
  | waiting
  | deciding
  | held
deriving DecidableEq, Repr

/-- The scrub state (R84, R86). -/
def State.scrubState (s : State) : ScrubState :=
  match s.part, s.loss.scrub with
  | .init, _ => .stopped
  | _, .deciding _ => if (s.nextAccess .scrub).isSome then .deciding else .held
  | _, _ => if s.waiting.scrub then .waiting else .idle

/-- The states of a verify pass (R89). -/
inductive WalkState where
  | reading
  | deciding
  | held
  | retrying
deriving DecidableEq, Repr

/-- The walk state of the verify unit (R89): RETRYING while the other reader's decision is open (R75), and READING once
it has ended and the read is asked for again. -/
def State.walkState (s : State) : WalkState :=
  match s.loss.verify with
  | .idle => .reading
  | .retrying pair => if s.decidedByOther .verify pair then .retrying else .reading
  | .deciding _ => if (s.nextAccess .verify).isSome then .deciding else .held

/-- The serving cursor has reached the end of the range list (R147). -/
def TransferRecord.atEnd (t : TransferRecord) : Bool := t.ranges.length ≤ t.cursorRange

/-- A word is behind the serving cursor (R38): in a finished range, or in the current one at an offset whose block
read has been granted. -/
def TransferRecord.behind (t : TransferRecord) (table offset : Nat) : Bool :=
  (t.ranges.zipIdx).any fun ri =>
    ri.1.table = table && ri.1.first ≤ offset
      && ((ri.2 < t.cursorRange && offset < ri.1.first + ri.1.count)
          || (ri.2 = t.cursorRange && offset < ri.1.first + t.cursorOffset))

/-- The transfer has a frame to offer under order 2 or 4 of R149. -/
def TransferRecord.hasFrame (t : TransferRecord) : Bool :=
  match t.block with
  | some b => b.complete
  | none => !t.queue.isEmpty

/-- The transfer is blocked, so the donor's stall timer runs (R153). -/
def State.transferBlocked (s : State) (t : TransferRecord) : Bool :=
  !t.opened || (t.hasFrame && Config.bulkSlots ≤ (s.port t.port).outstandingBulk) || t.phase = .awaitingVerdict

end Sys2Proof.Machine
end

