-- ==== Sys2Proof/Machine/Wire.lean ====
section
/-! DEFINITION. The bytes of the frames the part sends, and the two CRCs (R192). Where R192 leaves the layout of a
body open, log 22 says what the model reads from it. -/

namespace Sys2Proof.Machine
open Sys2Proof

/-! ### The CRCs -/

/-- One bit of a 16-bit CRC, polynomial 1021h (R192). -/
def crc16Bit (c : BitVec 16) (b : Bool) : BitVec 16 :=
  if c.msb != b then (c <<< 1) ^^^ 0x1021#16 else c <<< 1

/-- One bit of a 32-bit CRC, polynomial 04C11DB7h (R192). -/
def crc32Bit (c : BitVec 32) (b : Bool) : BitVec 32 :=
  if c.msb != b then (c <<< 1) ^^^ 0x04C11DB7#32 else c <<< 1

/-- The bits of a byte from the most significant. -/
def byteBits (b : Byte) : List Bool := [7, 6, 5, 4, 3, 2, 1, 0].map fun i => b.getLsbD i

/-- The CRC-16 of lane frames: initial value FFFFh, no inversion (R192). -/
def crc16 (bytes : List Byte) : BitVec 16 := (bytes.flatMap byteBits).foldl crc16Bit 0xFFFF#16

/-- The CRC-32 of cross-link frames: initial value FFFFFFFFh, result inverted (R192). -/
def crc32 (bytes : List Byte) : BitVec 32 := ~~~((bytes.flatMap byteBits).foldl crc32Bit 0xFFFFFFFF#32)

/-! ### Fields -/

/-- A 1-byte number. -/
def byte1 (n : Nat) : List Byte := [BitVec.ofNat 8 n]

/-- A 2-byte number, most significant byte first (R192). -/
def bytes2 (n : Nat) : List Byte := [BitVec.ofNat 8 (n / 256), BitVec.ofNat 8 n]

/-- A 4-byte number, most significant byte first (R192). -/
def bytes4 (v : BitVec 32) : List Byte := [v.extractLsb' 24 8, v.extractLsb' 16 8, v.extractLsb' 8 8, v.extractLsb' 0 8]

/-- A flag. -/
def flagByte (b : Bool) : List Byte := byte1 (if b then 1 else 0)

/-- An optional field: a presence byte, then the field (R192). -/
def optBytes {α : Type} (f : α → List Byte) : Option α → List Byte
  | none => byte1 0
  | some v => byte1 1 ++ f v

/-- A list: its entry count, then its entries (R192). -/
def listBytes {α : Type} (f : α → List Byte) (l : List α) : List Byte := byte1 l.length ++ l.flatMap f

def wordBytes (v : Word) : List Byte := bytes2 v.toNat
def pairBytes (p : Pair) : List Byte := bytes2 p.d1 ++ bytes2 p.d2
def digestEntryBytes (e : DigestEntry) : List Byte := byte1 e.table ++ pairBytes e.pair
def rangeBytes (r : Range) : List Byte := byte1 r.table ++ bytes2 r.first ++ bytes2 r.count

/-- The code of a part state (R192). -/
def PartState.code : PartState → Nat
  | .init => 0
  | .config => 1
  | .starting => 2
  | .active => 3
  | .joining => 4
  | .receiving => 5
  | .excluded => 6
  | .halted => 7

/-- The code of a standing (R192). -/
def Standing.code : Standing → Nat
  | .unknown => 0
  | .active => 1
  | .joining => 2
  | .excluded => 3
  | .halted => 4

/-- The code of a source, in the order of R118. -/
def Source.code : Source → Nat
  | .coldStart => 0
  | .vote => 1
  | .selfReport => 2
  | .peerReport => 3

/-- The code of a table kind, in the order of R11. -/
def TableKind.code : TableKind → Nat
  | .static => 0
  | .vital => 1
  | .localKind => 2

/-- The code of a lane; 3 is no lane (R192). -/
def laneCode : Option Lane → Nat
  | some .a => 0
  | some .b => 1
  | some .c => 2
  | none => 3

/-- The code of a JOIN REFUSE reason, in the order of R101. -/
def RefuseReason.code : RefuseReason → Nat
  | .notActive => 0
  | .serving => 1
  | .directoryMismatch => 2
  | .staticMismatch => 3

/-- The code of a TRANSFER ABORT reason, in the order in which R101 first lists it (log 22). -/
def AbortReason.code : AbortReason → Nat
  | .sourceLost => 0
  | .updateOverflow => 1
  | .link => 2
  | .donorLeft => 3
  | .mismatch => 4
  | .stall => 5
  | .localFault => 6
  | .excludedByPeer => 7
  | .reset => 8

/-- The code of a receive state, in the order of R100. -/
def ReceiveState.code : ReceiveState → Nat
  | .closed => 0
  | .opened => 1
  | .draining => 2

/-- The code of a fault class, in the order of the terms of 00_scope. -/
def FaultClass.code : FaultClass → Nat
  | .correctable => 0
  | .recoverable => 1
  | .laneFatal => 2

/-- The code of the reason of a failed join or resynchronisation, in the order of R161; DONOR ABORT is followed by the
reason it carried. DEDUCED (log 20); the reasons that R144 alone gives have free codes. -/
def ResyncReason.bytes : ResyncReason → List Byte
  | .mismatch => byte1 0
  | .stall => byte1 1
  | .donorAbort r => byte1 2 ++ byte1 r.code
  | .link => byte1 3
  | .localFault => byte1 4
  | .excludedByPeer => byte1 5
  | .reset => byte1 6
  | .noDonor => [Config.resyncReasonCode 0]
  | .refused r => [Config.resyncReasonCode (1 + r.code)]

/-- The code of the reason of the end of serving, in the order of R154; JOINER ABORT is followed by the reason it
carried. DEDUCED (log 20). -/
def ServingEnd.bytes : ServingEnd → List Byte
  | .accepted => byte1 0
  | .joinerLeft => byte1 1
  | .joinerAbort r => byte1 2 ++ byte1 r.code
  | .link => byte1 3
  | .sourceLost => byte1 4
  | .updateOverflow => byte1 5
  | .abandoned => byte1 6
  | .donorLeft => byte1 7

/-- The code of the reason of a STANDING CHANGE NOTICE, in the order of R119, EXCLUDED BY PEER being one reason whoever
gives it. The reasons of other chapters have free codes; FAULT is followed by its kind number (R165, R192), DONOR ABORT
by the reason it carried. DEDUCED (log 20). -/
def StandingReason.bytes : StandingReason → List Byte
  | .differs => byte1 0
  | .isolated => byte1 1
  | .excludedByPeer | .resync .excludedByPeer => byte1 2
  | .alone => byte1 3
  | .installationHalted => byte1 4
  | .fault k => [Config.standingReasonCode 0] ++ byte1 k.number
  | .unnamed => [Config.standingReasonCode 1]
  | .resync .noDonor => [Config.standingReasonCode 2]
  | .resync (.refused r) => [Config.standingReasonCode (3 + r.code)]
  | .resync .mismatch => [Config.standingReasonCode 7]
  | .resync .stall => [Config.standingReasonCode 8]
  | .resync (.donorAbort r) => [Config.standingReasonCode 9] ++ byte1 r.code
  | .resync .link => [Config.standingReasonCode 10]
  | .resync .localFault => [Config.standingReasonCode 11]
  | .resync .reset => [Config.standingReasonCode 12]

/-- The code of a fault record's reason, in the order of R167 for its kind; for RESYNC FAILED, of the failure
reason. DEDUCED (log 22): each kind's reasons are counted from 0. -/
def FaultReason.bytes : FaultReason → List Byte
  | .crc => byte1 0
  | .format => byte1 1
  | .overrun => byte1 2
  | .lane => byte1 0
  | .installation => byte1 1
  | .resync r => r.bytes

/-- The fields of a fault record (R167). DEDUCED (log 22): the row "Table and offset" is two optional fields, with a
presence byte each; the row "Pairs" is one, with one presence byte before both pairs. -/
def FaultEntry.bytes (e : FaultEntry) : List Byte :=
  byte1 e.kind.number ++ byte1 e.kind.class.code ++ bytes4 e.cycle ++ optBytes bytes2 e.address
    ++ optBytes byte1 e.table ++ optBytes bytes2 e.offset ++ optBytes (fun l => byte1 (laneCode l)) e.lane
    ++ optBytes FaultReason.bytes e.reason ++ optBytes (fun p => pairBytes p.1 ++ pairBytes p.2) e.pairs

/-- A record of the standing table (R118). -/
def StandingRecord.bytes (r : StandingRecord) : List Byte :=
  byte1 r.standing.code ++ optBytes bytes4 r.activeFrom ++ optBytes (fun x => byte1 x.code) r.source

/-- The standing table in the order A, B, C (R185). DEDUCED (log 22): three records and no list, so without an entry
count. -/
def Standings.bytes (t : Standings) : List Byte := t.a.bytes ++ t.b.bytes ++ t.c.bytes

/-- An entry of a standing list (R101). -/
def StandingEntry.bytes (e : StandingEntry) : List Byte := byte1 e.standing.code ++ optBytes bytes4 e.activeFrom

/-- A standing list: three entries in the order A, B, C (R101). -/
def StandingList.bytes (t : StandingList) : List Byte := listBytes StandingEntry.bytes [t.a, t.b, t.c]

/-! ### Notices to the lane processor -/

/-- The result of a verified table, in the order of R95, with the pair replaced under DRIFT (R97). DEDUCED (log 22):
the replaced pair has a presence byte in every entry, 0 for the other three results. -/
def VerifyResult.bytes (r : VerifyResult) : List Byte :=
  match r.verdict with
  | .skipped => byte1 r.table ++ byte1 0 ++ pairBytes r.pair ++ byte1 0
  | .resettled => byte1 r.table ++ byte1 1 ++ pairBytes r.pair ++ byte1 0
  | .agrees => byte1 r.table ++ byte1 2 ++ pairBytes r.pair ++ byte1 0
  | .drift p => byte1 r.table ++ byte1 3 ++ pairBytes r.pair ++ byte1 1 ++ pairBytes p

/-- The code of a vote outcome, in the order of R128, and the excluded lane, which has a presence byte (log 22). -/
def VoteOutcome.bytes : VoteOutcome → List Byte
  | .agreed => byte1 0 ++ byte1 0
  | .otherExcluded l => byte1 1 ++ byte1 1 ++ byte1 (laneCode (some l))
  | .selfExcluded => byte1 2 ++ byte1 0
  | .halted => byte1 3 ++ byte1 0

/-- The code of a vote reason, in the order of R128. -/
def VoteReason.code : VoteReason → Nat
  | .differs => 0
  | .absent => 1
  | .isolated => 2

/-- The code of a presence entry, in the order of R128. -/
def Presence.code : Presence → Nat
  | .self => 0
  | .present => 1
  | .absent => 2
  | .notExpected => 3

/-- The fields of a VOTE NOTICE (R128). DEDUCED (log 22): the presence entries of A, B and C are three bytes and no
list, so without an entry count. -/
def VoteNotice.bytes (n : VoteNotice) : List Byte :=
  bytes4 n.cycle ++ n.outcome.bytes ++ optBytes (fun r => byte1 r.code) n.reason
    ++ byte1 (match n.decidedBy with | .allPresent => 0 | .timer => 1)
    ++ byte1 n.presenceA.code ++ byte1 n.presenceB.code ++ byte1 n.presenceC.code ++ listBytes byte1 n.differing

/-- The code of a RESYNC NOTICE outcome, in the order of R163. -/
def ResyncOutcome.code : ResyncOutcome → Nat
  | .granted => 0
  | .complete _ => 1
  | .failedJoining _ => 2
  | .failedReceiving _ _ => 2
  | .serving _ => 3
  | .servingEnded _ _ _ => 4

/-- The reason, range count and counts of a RESYNC NOTICE (R163): each a presence byte and the field. DEDUCED (log 22):
the row Counts is one optional field, so one presence byte stands before both counts of SERVING ENDED. -/
def ResyncOutcome.tailBytes : ResyncOutcome → List Byte
  | .granted => byte1 0 ++ byte1 0 ++ byte1 0
  | .complete n => byte1 0 ++ byte1 0 ++ byte1 1 ++ bytes2 n
  | .failedJoining r => byte1 1 ++ r.bytes ++ byte1 0 ++ byte1 0
  | .failedReceiving r n => byte1 1 ++ r.bytes ++ byte1 0 ++ byte1 1 ++ bytes2 n
  | .serving n => byte1 0 ++ byte1 1 ++ byte1 n ++ byte1 0
  | .servingEnded r w u => byte1 1 ++ r.bytes ++ byte1 0 ++ byte1 1 ++ bytes2 w ++ bytes2 u

/-- The kind code of a notice (R192). -/
def Notice.kind : Notice → Nat
  | .vote _ => 0x40
  | .standingChange _ _ _ => 0x41
  | .resync _ _ _ => 0x42
  | .verify _ _ _ _ _ _ => 0x43
  | .fault _ _ => 0x44

/-- The body of a notice. DEDUCED (log 20): the kind of the reason FAULT of a STANDING CHANGE NOTICE (R174) is a byte
after the reason's code. -/
def Notice.body : Notice → List Byte
  | .vote n => n.bytes
  | .standingChange t changed reason =>
    t.bytes ++ listBytes (fun l => byte1 (laneCode (some l))) changed
      ++ optBytes StandingReason.bytes reason
  | .resync lane cycle o =>
    byte1 o.code ++ optBytes (fun l => byte1 (laneCode (some l))) lane ++ bytes4 cycle ++ o.tailBytes
  | .verify o origin st en results interrupted =>
    byte1 (match o with | .complete => 0 | .stopped => 1 | .aborted => 2)
      ++ byte1 (match origin with | .request => 0 | .auto => 1) ++ bytes4 st ++ bytes4 en
      ++ listBytes VerifyResult.bytes results ++ optBytes (fun tc => byte1 tc.1 ++ bytes2 tc.2) interrupted
  | .fault e n => e.bytes ++ bytes2 n

/-! ### Replies -/

/-- The code of a refusal reason (R192). -/
def RefusalReason.code : RefusalReason → Nat
  | .inUse => 1
  | .merge => 2
  | .noSpace => 3
  | .static => 4
  | .running => 5
  | .notRunning => 6
  | .noLane => 7
  | .noInstallation => 8
  | .noVital => 9
  | .version => 10
  | .staticRange => 11
  | .zeroCount => 12
  | .overlap => 13

/-- A status code, with the reason code of REFUSED (R192). -/
def Status.bytes : Status → List Byte
  | .done => byte1 0
  | .queueFull => byte1 1
  | .wrongState => byte1 2
  | .noTable => byte1 3
  | .range => byte1 4
  | .refused r => byte1 5 ++ byte1 r.code
  | .lost => byte1 6
  | .votePending => byte1 7
  | .wrongCycle => byte1 8
  | .unsettled => byte1 9
  | .noCheckpoint => byte1 10
  | .malformed => byte1 11
  | .unknownRequest => byte1 12

/-- The six timings with the widths of R187. -/
def Timings.bytes (t : Timings) : List Byte :=
  bytes2 t.voteWindow ++ bytes2 t.joinWait ++ bytes2 t.stallTime ++ byte1 t.prescale ++ bytes2 t.period
    ++ bytes2 t.autoVerify

/-- The STATUS items of a port (R184). DESIGN CHOICE (log 22): of the two outstanding counts that of control comes
first. -/
def PortReport.bytes (p : PortReport) : List Byte :=
  byte1 p.rx.code ++ bytes2 p.outstandingControl ++ bytes2 p.outstandingBulk ++ bytes2 p.dropCount

/-- The STATUS items of the resync unit (R184), after a byte that names its part in a transfer (log 22). The peers asked
in JOINING stand in the order of `State.resyncReport`, a DESIGN CHOICE (log 22). -/
def ResyncReport.bytes : ResyncReport → List Byte
  | .idle => byte1 0
  | .donor l ph q =>
    byte1 1 ++ byte1 (laneCode (some l))
      ++ byte1 (match ph with | .sending => 0 | .finalQueued => 1 | .awaitingVerdict => 2) ++ bytes2 q
  | .receiving l ph m n =>
    byte1 2 ++ byte1 (laneCode (some l)) ++ byte1 (match ph with | .applying => 0 | .closing => 1 | .failing => 2)
      ++ bytes2 m ++ bytes2 n
  | .joining ph asked =>
    byte1 3 ++ byte1 (match ph with | .establishing => 0 | .asking => 1)
      ++ listBytes (fun l => byte1 (laneCode (some l))) asked

/-- The STATUS items absent in INIT (R184). DEDUCED (log 22): the item "close or rollback in flight, with its cycle" is
two optional cycles, the close's and then the rollback's, with a presence byte each; the item "pass running, with its
current table and cursor" (R89) is one optional field, whose presence byte says that a pass runs. -/
def UnitsReport.bytes (u : UnitsReport) : List Byte :=
  bytes4 u.cycle ++ flagByte u.checkpointValid ++ bytes2 u.changeCount ++ flagByte u.wide ++ bytes2 u.lostCount
    ++ optBytes bytes4 u.close ++ optBytes bytes4 u.rollback ++ flagByte u.confirmed ++ flagByte u.laneHealthy
    ++ bytes4 u.lastVoted ++ optBytes bytes4 u.openVote ++ bytes2 u.scrubCursor ++ bytes2 u.scrubPasses
    ++ bytes2 u.scrubLag ++ optBytes (fun tc => byte1 tc.1 ++ bytes2 tc.2) u.verifyAt ++ bytes2 u.autoCount
    ++ listBytes VerifyResult.bytes u.kept ++ u.resync.bytes

/-- The fields of STATUS in the order of R184. DEDUCED (log 22): the items absent in INIT and the address in their place
have no presence byte, the part state before them telling which is there; the address follows the installation code. -/
def StatusReport.bytes (r : StatusReport) : List Byte :=
  byte1 r.part.code ++ optBytes (fun l => byte1 (laneCode (some l))) r.lane ++ bytes4 r.installation
    ++ (match r.clearNext with | some a => bytes2 a | none => [])
    ++ (match r.units with | some u => u.bytes | none => [])
    ++ r.x1.bytes ++ r.x2.bytes ++ bytes2 r.requests ++ bytes2 r.notices ++ bytes2 r.noticeDrops
    ++ bytes2 r.replyDrops ++ r.timings.bytes

/-- An entry of READ DIGESTS (R31). -/
def DigestReport.bytes (d : DigestReport) : List Byte :=
  byte1 d.table ++ (match d.working with | some p => pairBytes p | none => []) ++ optBytes pairBytes d.checkpoint
    ++ flagByte d.unsettled

/-- A (table, offset) pair. -/
def wordNameBytes (w : Nat × Nat) : List Byte := byte1 w.1 ++ bytes2 w.2

/-- The code of a close kind, in the order of R55. -/
def CloseKind.code : CloseKind → Nat
  | .full => 0
  | .partialKind => 1

/-- The fields of a reply after its status. DEDUCED (log 22): the sixteen counters of FAULT REPORT are sixteen fields
and no list, so they have no entry count; the strap code of IDENTIFY (R183) is 1 byte; the positions with which a JOIN
is refused (R138) are bytes without an entry count. -/
def ReplyFields.bytes : ReplyFields → List Byte
  | .none => []
  | .identity name revision strap lane inst part =>
    Config.partNameBytes name ++ Config.revisionBytes revision ++ byte1 strap.toNat
      ++ optBytes (fun l => byte1 (laneCode (some l))) lane ++ bytes4 inst ++ byte1 part.code
  | .status r => r.bytes
  | .standing t part voted confirmed s1 s2 v =>
    t.bytes ++ byte1 part.code ++ bytes4 voted ++ flagByte confirmed ++ optBytes bytes4 s1 ++ optBytes bytes4 s2
      ++ optBytes bytes4 v
  | .code c => bytes4 c
  | .timings t => t.bytes
  | .defined base free => bytes2 base ++ bytes2 free
  | .count n => bytes2 n
  | .ranges n => byte1 n
  | .positions ps => ps.flatMap byte1
  | .started c v n pairs => bytes4 c ++ flagByte v ++ bytes2 n ++ listBytes digestEntryBytes pairs
  | .wasReset before v c n => byte1 before.code ++ flagByte v ++ bytes4 c ++ bytes2 n
  | .values t f n vs => byte1 t ++ bytes2 f ++ bytes2 n ++ listBytes wordBytes vs
  | .lostWord t o => byte1 t ++ bytes2 o
  | .masked o n => wordBytes o ++ wordBytes n
  | .filled t n => byte1 t ++ bytes2 n
  | .digests c v es => bytes4 c ++ flagByte v ++ listBytes DigestReport.bytes es
  | .closed c k n pairs => bytes4 c ++ byte1 k.code ++ bytes2 n ++ listBytes digestEntryBytes pairs
  | .cycle c => bytes4 c
  | .lostList ws => listBytes wordNameBytes ws
  | .lostRollback ws n => listBytes wordNameBytes ws ++ bytes2 n
  | .tables ns => listBytes byte1 ns
  | .verifyStarted c n => bytes4 c ++ byte1 n
  | .faults cs first log lostEntries =>
    cs.flatMap bytes2 ++ optBytes FaultEntry.bytes first ++ listBytes FaultEntry.bytes log ++ bytes2 lostEntries
  | .flags fs => fs.flatMap flagByte

/-- The bytes of a lane frame that its CRC-16 covers: length, kind code, tag and body (R192). -/
def laneCovered (kind tag : Byte) (body : List Byte) : List Byte := bytes2 (body.length + 2) ++ [kind, tag] ++ body

/-- A lane frame: start byte, length, kind code, tag, body and CRC-16 (R192). -/
def laneFrameBytes (kind tag : Byte) (body : List Byte) : List Byte :=
  let covered := laneCovered kind tag body
  [0x7E#8] ++ covered ++ bytes2 (crc16 covered).toNat

/-- The bytes of a frame the lane transmitter sends: replies under code 80h, notices with tag 0 (R180, R192). -/
def LaneOut.bytes : LaneOut → List Byte
  | .reply r => laneFrameBytes 0x80#8 r.tag ([r.kind] ++ r.status.bytes ++ r.fields.bytes)
  | .notice n => laneFrameBytes (BitVec.ofNat 8 n.kind) 0 n.body

/-! ### Cross-link frames -/

/-- The kind code of a cross-link message (R192). -/
def CrossMsg.kind : CrossMsg → Nat
  | .control (.digestNotice _ _ _) => 0x20
  | .control (.standingNotice _) => 0x21
  | .control (.joinAsk _ _ _) => 0x22
  | .control (.joinGrant _) => 0x23
  | .control (.joinRefuse _) => 0x24
  | .control (.transferAbort _) => 0x25
  | .bulk (.imageBlock _ _ _) => 0x30
  | .bulk (.update _ _ _) => 0x31
  | .bulk (.closeMark _ _) => 0x32
  | .credit _ => 0x38
  | .creditReset => 0x39

/-- The class code of a cross-link message (R192). -/
def CrossMsg.classCode : CrossMsg → Nat
  | .credit _ | .creditReset => 0
  | .control _ => 1
  | .bulk _ => 2

/-- An entry of a directory summary (R101). -/
def SummaryEntry.bytes (e : SummaryEntry) : List Byte := byte1 e.number ++ byte1 e.kind.code ++ bytes2 e.length

/-- The body of a cross-link message, its fields in the order of R101 and R102. DEDUCED (log 22): the digest list of a
CLOSE MARK has no presence byte of its own, the final flag before it standing for one. -/
def CrossMsg.body : CrossMsg → List Byte
  | .control (.digestNotice c l ds) => bytes4 c ++ l.bytes ++ listBytes digestEntryBytes ds
  | .control (.standingNotice l) => l.bytes
  | .control (.joinAsk sm st rs) =>
    listBytes SummaryEntry.bytes sm ++ listBytes digestEntryBytes st ++ listBytes rangeBytes rs
  | .control (.joinGrant c) => bytes4 c
  | .control (.joinRefuse r) => byte1 r.code
  | .control (.transferAbort r) => byte1 r.code
  | .bulk (.imageBlock t f vs) => byte1 t ++ bytes2 f ++ listBytes wordBytes vs
  | .bulk (.update t o v) => byte1 t ++ bytes2 o ++ wordBytes v
  | .bulk (.closeMark c final) =>
    bytes4 c ++ flagByte final.isSome ++ (match final with | some ds => listBytes digestEntryBytes ds | none => [])
  | .credit .control => byte1 1
  | .credit .bulk => byte1 2
  | .creditReset => []

/-- The bytes of a cross-link frame that its CRC-32 covers: length, kind code, class, sender lane, installation code
and body (R192). -/
def crossCovered (kind cls sender : Byte) (code : Code) (body : List Byte) : List Byte :=
  bytes2 (body.length + 7) ++ [kind, cls, sender] ++ bytes4 code ++ body

/-- A cross-link frame (R192). -/
def crossFrameBytes (sender : Option Lane) (code : Code) (m : CrossMsg) : List Byte :=
  let covered := crossCovered (BitVec.ofNat 8 m.kind) (BitVec.ofNat 8 m.classCode)
    (BitVec.ofNat 8 (laneCode sender)) code m.body
  [0x7E#8] ++ covered ++ bytes4 (crc32 covered)

end Sys2Proof.Machine
end

