-- ==== Sys2Proof/Machine/Operands.lean ====
section
/-! DEFINITION. The operand forms: parsing the bodies of request frames and of cross-link frames as the fields of
their kinds (R103, R177, R192). A parser takes the bytes that are left and answers a field with the bytes after it;
`none` is a body that cannot be parsed. -/

namespace Sys2Proof.Machine
open Sys2Proof

/-- A field and the bytes after it. -/
abbrev Parse (α : Type) := List Byte → Option (α × List Byte)

/-- A 1-byte number. -/
def takeByte : Parse Nat
  | b :: rest => some (b.toNat, rest)
  | [] => none

/-- A 2-byte number, most significant byte first. -/
def take2 : Parse Nat
  | a :: b :: rest => some (a.toNat * 256 + b.toNat, rest)
  | _ => none

/-- A 16-bit word. -/
def takeWord : Parse Word
  | a :: b :: rest => some (a ++ b, rest)
  | _ => none

/-- A 4-byte number, most significant byte first. -/
def take4 : Parse (BitVec 32)
  | a :: b :: c :: d :: rest => some (a ++ b ++ c ++ d, rest)
  | _ => none

/-- A flag or a presence byte: 0 or 1. -/
def takeFlag : Parse Bool := fun bs =>
  match takeByte bs with
  | some (0, rest) => some (false, rest)
  | some (1, rest) => some (true, rest)
  | _ => none

/-- `n` fields of one form in a row. -/
def takeMany {α : Type} (f : Parse α) : Nat → Parse (List α)
  | 0, bs => some ([], bs)
  | n + 1, bs =>
    match f bs with
    | some (v, rest) =>
      match takeMany f n rest with
      | some (vs, rest') => some (v :: vs, rest')
      | none => none
    | none => none

/-- A list of at most `max` entries: its entry count, then its entries (R192). -/
def takeList {α : Type} (f : Parse α) (max : Nat) : Parse (List α) := fun bs =>
  match takeByte bs with
  | some (n, rest) => if n ≤ max then takeMany f n rest else none
  | none => none

/-- An optional field: a presence byte, then the field (R192). -/
def takeOpt {α : Type} (f : Parse α) : Parse (Option α) := fun bs =>
  match takeFlag bs with
  | some (true, rest) => (f rest).map fun vr => (some vr.1, vr.2)
  | some (false, rest) => some (none, rest)
  | none => none

/-- One field after another. -/
def takeBoth {α β : Type} (f : Parse α) (g : Parse β) : Parse (α × β) := fun bs =>
  match f bs with
  | some (a, rest) => (g rest).map fun br => ((a, br.1), br.2)
  | none => none

/-- A field that fills the body: nothing may be left after it (R177). -/
def whole {α : Type} (f : Parse α) (bs : List Byte) : Option α :=
  match f bs with
  | some (v, []) => some v
  | _ => none

/-- A table kind; a code that names none cannot be parsed (R13). -/
def takeKind : Parse TableKind := fun bs =>
  match takeByte bs with
  | some (0, rest) => some (.static, rest)
  | some (1, rest) => some (.vital, rest)
  | some (2, rest) => some (.localKind, rest)
  | _ => none

/-- A range: table number, first offset, count (R138). -/
def takeRange : Parse Range := fun bs =>
  (takeBoth takeByte (takeBoth take2 take2) bs).map fun v =>
    ({ table := v.1.1, first := v.1.2.1, count := v.1.2.2 }, v.2)

/-- A digest pair. DESIGN CHOICE (log 43): every 2-byte component is taken, above 65520 too. -/
def takePair : Parse Pair := fun bs => (takeBoth take2 take2 bs).map fun v => ({ d1 := v.1.1, d2 := v.1.2 }, v.2)

/-- A table number with a digest pair. DESIGN CHOICE (log 43): every 1-byte table number is taken, above 31 too. -/
def takeDigestEntry : Parse DigestEntry := fun bs =>
  (takeBoth takeByte takePair bs).map fun v => ({ table := v.1.1, pair := v.1.2 }, v.2)

/-! ### Requests -/

/-- The six optional fields of SET TIMING with the widths of R187. -/
def takeTiming : Parse TimingFields := fun bs =>
  (takeBoth (takeOpt take2) (takeBoth (takeOpt take2) (takeBoth (takeOpt take2) (takeBoth (takeOpt takeByte)
    (takeBoth (takeOpt take2) (takeOpt take2))))) bs).map fun v =>
      ({ voteWindow := v.1.1, joinWait := v.1.2.1, stallTime := v.1.2.2.1, prescale := v.1.2.2.2.1,
         period := v.1.2.2.2.2.1, autoVerify := v.1.2.2.2.2.2 }, v.2)

/-- A body with no fields. -/
def emptyBody (r : Request) (body : List Byte) : Option Request := if body.isEmpty then some r else none

/-- Whether a kind code names a request (R192). -/
def namesRequest (kind : Byte) : Bool := 1 ≤ kind.toNat && kind.toNat ≤ 0x15

/-- A request's body parsed as the fields of its kind (R177, R192); `none` is MALFORMED. A kind code that names no
request is not parsed. -/
def parseRequest (kind : Byte) (body : List Byte) : Option Request :=
  match kind.toNat with
  | 0x01 => emptyBody .identify body
  | 0x02 => emptyBody .status body
  | 0x03 => (whole take4 body).map .setInstallation
  | 0x04 => (whole takeTiming body).map .setTiming
  | 0x05 =>
    (whole (takeBoth takeByte (takeBoth takeKind (takeBoth take2 (takeBoth takeWord takeByte)))) body).map fun v =>
      .defineTable v.1 v.2.1 v.2.2.1 v.2.2.2.1 v.2.2.2.2
  | 0x06 => emptyBody .clearDirectory body
  | 0x07 => emptyBody .startCold body
  | 0x08 => (whole (takeBoth takeByte (takeList takeRange Config.maxRanges)) body).map fun v => .join v.1 v.2
  | 0x09 => emptyBody .laneReset body
  | 0x0A => (whole (takeBoth takeByte (takeBoth take2 take2)) body).map fun v => .read v.1 v.2.1 v.2.2
  | 0x0B =>
    match whole (takeBoth takeByte (takeBoth take2 (takeBoth take2 (takeList takeWord 255)))) body with
    | some (t, f, n, vs) => if vs.length = n then some (.write t f n vs) else none
    | none => none
  | 0x0C =>
    (whole (takeBoth takeByte (takeBoth take2 (takeBoth takeWord takeWord))) body).map fun v =>
      .writeMasked v.1 v.2.1 v.2.2.1 v.2.2.2
  | 0x0D => (whole takeByte body).map .safeFill
  | 0x0E => (whole (takeList takeByte 32) body).map .readDigests
  | 0x0F => (whole take4 body).map .closeCycle
  | 0x10 => emptyBody .rollback body
  | 0x11 => emptyBody .verify body
  | 0x12 => emptyBody .verifyStop body
  | 0x13 => (whole (takeBoth (takeMany takeFlag 16) takeFlag) body).map fun v => .faultReport v.1 v.2
  | 0x14 => (whole (takeMany takeFlag 16) body).map .setNoticeMask
  | 0x15 => emptyBody .readStanding body
  | _ => none

/-! ### Cross-link messages -/

/-- An entry of a standing list: active-from is present exactly with ACTIVE (R101). -/
def takeStanding : Parse StandingEntry := fun bs =>
  match takeBoth takeByte (takeOpt take4) bs with
  | some ((0, none), rest) => some ({ standing := .unknown, activeFrom := none }, rest)
  | some ((1, some m), rest) => some ({ standing := .active, activeFrom := some m }, rest)
  | some ((2, none), rest) => some ({ standing := .joining, activeFrom := none }, rest)
  | some ((3, none), rest) => some ({ standing := .excluded, activeFrom := none }, rest)
  | some ((4, none), rest) => some ({ standing := .halted, activeFrom := none }, rest)
  | _ => none

/-- A standing list: exactly three entries in the order A, B, C (R101). -/
def takeStandings : Parse StandingList := fun bs =>
  match takeList takeStanding 3 bs with
  | some ([a, b, c], rest) => some ({ a, b, c }, rest)
  | _ => none

/-- An entry of a directory summary (R101). DESIGN CHOICE (log 43): every 1-byte number and 2-byte length is taken, above
31, above 4096 and 0 too. -/
def takeSummary : Parse SummaryEntry := fun bs =>
  (takeBoth takeByte (takeBoth takeKind take2) bs).map fun v =>
    ({ number := v.1.1, kind := v.1.2.1, length := v.1.2.2 }, v.2)

/-- A JOIN REFUSE reason. -/
def takeRefuse : Parse RefuseReason := fun bs =>
  match takeByte bs with
  | some (0, rest) => some (.notActive, rest)
  | some (1, rest) => some (.serving, rest)
  | some (2, rest) => some (.directoryMismatch, rest)
  | some (3, rest) => some (.staticMismatch, rest)
  | _ => none

/-- A TRANSFER ABORT reason (log 22). -/
def takeAbort : Parse AbortReason := fun bs =>
  match takeByte bs with
  | some (0, rest) => some (.sourceLost, rest)
  | some (1, rest) => some (.updateOverflow, rest)
  | some (2, rest) => some (.link, rest)
  | some (3, rest) => some (.donorLeft, rest)
  | some (4, rest) => some (.mismatch, rest)
  | some (5, rest) => some (.stall, rest)
  | some (6, rest) => some (.localFault, rest)
  | some (7, rest) => some (.excludedByPeer, rest)
  | some (8, rest) => some (.reset, rest)
  | _ => none

/-- The class of a CREDIT. -/
def takeClass : Parse CreditClass := fun bs =>
  match takeByte bs with
  | some (1, rest) => some (.control, rest)
  | some (2, rest) => some (.bulk, rest)
  | _ => none

/-- The digest list of a final CLOSE MARK is present exactly when the final flag is set (R102). DEDUCED (log 22): no
presence byte but the flag. -/
def takeFinal : Parse (Option (List DigestEntry)) := fun bs =>
  match takeFlag bs with
  | some (true, rest) => (takeList takeDigestEntry 32 rest).map fun v => (some v.1, v.2)
  | some (false, rest) => some (none, rest)
  | none => none

/-- A cross-link body parsed as the fields of its kind (R101 to R103); `none` where the kind names no message or the
body cannot be parsed. DEDUCED (log 22): a list longer than R101 and R102 give its field (32 summary or digest entries,
16 ranges, 32 words of a block, 32 entries of a final mark) cannot be parsed. DESIGN CHOICE (log 43): the table numbers of
a list may stand in any order and above 31. -/
def parseCross (kind : Byte) (body : List Byte) : Option CrossMsg :=
  match kind.toNat with
  | 0x20 =>
    match whole (takeBoth take4 (takeBoth takeStandings (takeList takeDigestEntry 32))) body with
    | some (c, l, ds) => if ds.isEmpty then none else some (.control (.digestNotice c l ds))
    | none => none
  | 0x21 => (whole takeStandings body).map fun l => .control (.standingNotice l)
  | 0x22 =>
    (whole (takeBoth (takeList takeSummary 32) (takeBoth (takeList takeDigestEntry 32)
      (takeList takeRange Config.maxRanges))) body).map fun v => .control (.joinAsk v.1 v.2.1 v.2.2)
  | 0x23 => (whole take4 body).map fun c => .control (.joinGrant c)
  | 0x24 => (whole takeRefuse body).map fun r => .control (.joinRefuse r)
  | 0x25 => (whole takeAbort body).map fun r => .control (.transferAbort r)
  | 0x30 =>
    match whole (takeBoth takeByte (takeBoth take2 (takeList takeWord Config.requestWords))) body with
    | some (t, f, vs) => if vs.isEmpty then none else some (.bulk (.imageBlock t f vs))
    | none => none
  | 0x31 => (whole (takeBoth takeByte (takeBoth take2 takeWord)) body).map fun v => .bulk (.update v.1 v.2.1 v.2.2)
  | 0x32 => (whole (takeBoth take4 takeFinal) body).map fun v => .bulk (.closeMark v.1 v.2)
  | 0x38 => (whole takeClass body).map .credit
  | 0x39 => if body.isEmpty then some .creditReset else none
  | _ => none

end Sys2Proof.Machine
end

