-- ==== Sys2Proof/Machine/Standing.lean ====
section
/-! DEFINITION. Changes of the standing table and of the part state, the notices they send (R118, R119, R134), the
end of serving (R154), the failures of a join and of a resynchronisation (R144, R161, R162), and the recording of a
fault with its consequence (R166, R173, R174). -/

namespace Sys2Proof.Machine
open Sys2Proof

/-! ### The own record and the checks of R134 -/

/-- A record of the standing table set with its source (R118). -/
def State.setRecord (s : State) (l : Lane) (st : Standing) (from_ : Option Cycle) (src : Source) : State :=
  { s with standings := s.standings.set l { standing := st, activeFrom := from_, source := some src } }

/-- The own record set; a part with no lane never changes its records (R117). -/
def State.setOwn (s : State) (st : Standing) (from_ : Option Cycle) (src : Source) : State :=
  match s.ownLane with
  | some l => s.setRecord l st from_ src
  | none => s

/-- An entry of a standing list: active-from goes with ACTIVE only (R101). -/
def StandingRecord.entry (r : StandingRecord) : StandingEntry :=
  { standing := r.standing, activeFrom := if r.standing = .active then r.activeFrom else none }

/-- The standing list of a table (R101). -/
def Standings.list (t : Standings) : StandingList := { a := t.a.entry, b := t.b.entry, c := t.c.entry }

/-- A message is queued on both ports (R100). -/
def State.sendBoth (s : State) (m : ControlMsg) : State := (s.sendControl .x1 m).sendControl .x2 m

/-- The STANDING NOTICE of R119 on both ports. -/
def State.sendStandings (s : State) : State := s.sendBoth (.standingNotice s.standings.list)

/-- The part leaves ACTIVE (R119): own record, STANDING NOTICE, confirmed flag, vote record, slots, pin. -/
def State.leaveActive (s : State) (part : PartState) (src : Source) : State :=
  let s1 := { s with part, confirmed := false, vote := none, slotX1 := none, slotX2 := none, healthyPin := false }
  (s1.setOwn part.standing none src).sendStandings

/-- The part enters EXCLUDED from JOINING or RECEIVING (R144, R162). -/
def State.enterExcluded (s : State) (src : Source) : State :=
  ({ s with part := .excluded }.setOwn .excluded none src).sendStandings

/-- The part enters HALTED from EXCLUDED (R134, R135). -/
def State.haltInstallation (s : State) : State :=
  ({ s with part := .halted }.setOwn .halted none .selfReport).sendStandings

/-- Both peer records are HALTED (R134). -/
def State.peersHalted (s : State) : Bool :=
  match s.peer .x1, s.peer .x2 with
  | some p, some q => s.standingOf p = .halted && s.standingOf q = .halted
  | _, _ => false

/-- A state with the cause of the last change of the own record in the event, if it changed (R119). -/
abbrev Caused := State × Option StandingReason

/-- The checks of R134: ALONE, then installation halted. -/
def standingChecks (c : Caused) : Caused :=
  let c1 : Caused :=
    if c.1.part = .active && c.1.standings.activeCount < 2 then (c.1.leaveActive .excluded .selfReport, some .alone)
    else c
  if c1.1.part = .excluded && c1.1.peersHalted then (c1.1.haltInstallation, some .installationHalted) else c1

/-- The lanes whose records changed (R119). DESIGN CHOICE (log 18): they are listed in the order A, B, C, and a record
changes by its standing or active-from; one whose source alone becomes another, as at a cold start that finds a peer
ACTIVE from 1 (R136), is not listed. -/
def changedLanes (before after : Standings) : List Lane :=
  [Lane.a, Lane.b, Lane.c].filter fun l =>
    (before.get l).standing ≠ (after.get l).standing || (before.get l).activeFrom ≠ (after.get l).activeFrom

/-- The STANDING CHANGE NOTICE of an event that found the table `before` (R119): one for all its changes. -/
def announce (before : Standings) (c : Caused) : State :=
  let changed := changedLanes before c.1.standings
  if changed.isEmpty then c.1
  else
    let own := match c.1.ownLane with
      | some l => changed.contains l
      | none => false
    c.1.notify (.standingChange c.1.standings changed (if own then some (c.2.getD .unnamed) else none))

/-! ### The end of serving -/

/-- No queued JOIN GRANT is that of the transfer any more (R148). -/
def PortState.forgetGrant (p : PortState) : PortState :=
  { p with send := p.send.map fun e => { e with opens := false } }

/-- The TRANSFER ABORT of an event that sends one. -/
def State.sendAbort (s : State) (p : Port) : Option AbortReason → State
  | some r => s.sendControl p (.transferAbort r)
  | none => s

/-- Serving ends (R154). -/
def State.endServing (s : State) (why : ServingEnd) (abort : Option AbortReason) : State :=
  match s.transfer with
  | none => s
  | some t =>
    let s1 := s.sendAbort t.port abort
    let s2 := s1.setPort t.port (s1.port t.port).forgetGrant
    let s3 := { s2.withdraw .donor with transfer := none }
    s3.notify (.resync (some t.lane) s.cycle (.servingEnded why t.wordsSent t.updatesSent))

/-- What a change of the standings does to a transfer being served (R154). DESIGN CHOICE (log 40): of the causes that
one standing list brings, a new record of the joining lane is taken before the part's own exit from ACTIVE; and the
TRANSFER ABORT is queued after the STANDING NOTICE of the event. -/
def State.servingAfterStandings (s : State) : State :=
  match s.transfer with
  | none => s
  | some t =>
    match s.standingOf t.lane with
    | .active => s.endServing .accepted none
    | .excluded | .halted => s.endServing .joinerLeft none
    | .unknown | .joining => if s.part = .active then s else s.endServing .donorLeft (some .donorLeft)

/-! ### Receive slots -/

/-- `n` bulk slots are freed: credits become pending in OPEN only (R105). -/
def PortState.creditBulk (p : PortState) (n : Nat) : PortState :=
  if p.rx = .opened then { p with pendingBulk := saturateBy Config.bulkSlots p.pendingBulk n } else p

/-- `n` control slots are freed (R105). -/
def PortState.creditControl (p : PortState) (n : Nat) : PortState :=
  if p.rx = .opened then { p with pendingControl := saturateBy Config.controlSlots p.pendingControl n } else p

/-- The held bulk frames are taken and discarded (R107). -/
def PortState.discardBulk (p : PortState) : PortState := { p.creditBulk p.bulk.length with bulk := [] }

/-- Whether bulk frames of a port are for the resync unit (R107, R162). -/
def State.receivesOn (s : State) (p : Port) : Bool :=
  match s.receive with
  | some r => s.part = .receiving && r.port = p && r.phase ≠ .failing
  | none => false

/-- Bulk frames held where they are not received are discarded (R107, log 23). -/
def State.discardStray (s : State) : State :=
  let s1 := if s.receivesOn .x1 then s else { s with x1 := s.x1.discardBulk }
  if s1.receivesOn .x2 then s1 else { s1 with x2 := s1.x2.discardBulk }

/-- The processing of a bulk frame ends and its slot is freed (R107). -/
def State.freeProcessing (s : State) : State :=
  match s.receive with
  | some r =>
    if r.frame.isSome then
      { s.setPort r.port ((s.port r.port).creditBulk 1) with receive := some { r with frame := none } }
    else s
  | none => s

/-! ### Failures -/

/-- The RESYNC FAILED record, naming this lane (R144, R161). -/
def State.recordFailed (s : State) (lane : Option Lane) (why : ResyncReason) : State :=
  s.logFault { s.bareFault .resyncFailed with lane := lane.map some, reason := some (.resync why) }

/-- A join fails (R144). -/
def State.failJoin (s : State) (why : ResyncReason) : State :=
  match s.join with
  | none => s
  | some j =>
    let s1 := { s with join := none }.enterExcluded .selfReport
    let s2 := announce s.standings (standingChecks (s1, some (.resync why)))
    let s3 := s2.recordFailed j.last why
    s3.notify (.resync j.last s3.cycle (.failedJoining why))

/-- A close in flight is aborted (R64): checkpoint-valid goes false if any copy has been written. -/
def State.abortClose (s : State) : State :=
  match s.close with
  | none => s
  | some c => { s.withdraw .cycle with close := none, checkpointValid := s.checkpointValid && !c.wroteCopy }

/-- The VITAL tables in ascending number (R162). -/
def State.vitalTables (s : State) : List Table := s.tablesOf TableKind.isVital

/-- The reason of a failed resynchronisation (R161). -/
def ReceiveRecord.reason (r : ReceiveRecord) : ResyncReason := r.failure.getD .localFault

/-- The change of standing at the end of the failure fill (step 1 of R162), with the checks of R134. -/
def endFill (s : State) (r : ReceiveRecord) : Caused :=
  let src := if r.reason = .excludedByPeer then Source.peerReport else Source.selfReport
  standingChecks ({ s with receive := none }.enterExcluded src, some (.resync r.reason))

/-- The RESYNC NOTICE at the end of the failure fill (step 3 of R162). -/
def State.fillNotice (s : State) (r : ReceiveRecord) : State :=
  (s.notify (.resync (some r.donor) s.cycle (.failedReceiving r.reason r.applied))).discardStray

/-- The failure fill has ended (R162). -/
def State.finishFill (s : State) : State :=
  match s.receive with
  | none => s
  | some r => (announce s.standings (endFill s r)).fillNotice r

/-- The receive record of a failed resynchronisation: FAILING, with the failure fill at its start (R161, R162). -/
def ReceiveRecord.failed (r : ReceiveRecord) (why : ResyncReason) : ReceiveRecord :=
  { r with phase := .failing, frame := none, failure := some why, stall := none, fillTable := 0, fillOffset := 0 }

/-- FAILING is entered: the frame in processing and a mark close end (R161). -/
def State.enterFailing (s : State) (r : ReceiveRecord) (why : ResyncReason) : State :=
  ((s.freeProcessing.setReceive (r.failed why)).withdraw .joiner).abortClose

/-- A resynchronisation fails in APPLYING or CLOSING (R161): FAILING, the TRANSFER ABORT, and the record. In FAILING a
further cause has no effect (R162). -/
def State.beginFailing (s : State) (why : ResyncReason) (abort : Option AbortReason) : State :=
  match s.receive with
  | none => s
  | some r =>
    if r.phase = .failing then s
    else (((s.enterFailing r why).sendAbort r.port abort).recordFailed (some r.donor) why).discardStray

/-- A resynchronisation is in APPLYING or CLOSING (R161). -/
def State.inResync (s : State) : Bool := s.receive.any fun r => r.phase ≠ .failing

/-- The receive record of a failure fill that has no VITAL word to write (R162). -/
def State.emptyFill (s : State) : Option ReceiveRecord :=
  match s.receive with
  | some r => if s.part = .receiving && r.phase = .failing && s.vitalTables.isEmpty then some r else none
  | none => none

/-- A resynchronisation fails (R161), and the failure fill begins; with no VITAL word to fill it ends at once. -/
def State.failResync (s : State) (why : ResyncReason) (abort : Option AbortReason) : State :=
  let s1 := s.beginFailing why abort
  if s.inResync && s1.vitalTables.isEmpty then s1.finishFill else s1

/-- The end of an event that may have changed the standing table: the lane notice, then the end of serving. A failure
that the event began and that has nothing to fill ends in it, under the same lane notice (R119, R162). -/
def closeStandings (before : Standings) (c : Caused) : State :=
  match c.1.emptyFill with
  | some r => (announce before (endFill c.1 r)).servingAfterStandings.fillNotice r
  | none => (announce before c).servingAfterStandings

/-! ### Recording a fault -/

/-- The consequence of a lane-fatal fault by the part state (R173, R174). -/
def State.laneFatal (s : State) (k : FaultKind) : State :=
  match s.part with
  | .active =>
    closeStandings s.standings (standingChecks (s.leaveActive .excluded .selfReport, some (.fault k)))
  | .joining => s.failJoin .localFault
  | .receiving => s.failResync .localFault (some .localFault)
  | .init | .config | .starting | .excluded | .halted => s

/-- A fault is recorded with its consequence (R166). -/
def State.record (s : State) (e : FaultEntry) : State :=
  if e.kind.class = .laneFatal then (s.logFault e).laneFatal e.kind else s.logFault e

end Sys2Proof.Machine
end

