-- ==== Sys2Proof/Machine/Vote.lean ====
section
/-! DEFINITION. The standing rule (R130 to R133) and the vote (R120, R123 to R128). -/

namespace Sys2Proof.Machine
open Sys2Proof

/-! ### The vote -/

/-- A record counts in the vote for `n`: ACTIVE from `n` or earlier (R123). -/
def StandingRecord.expectedIn (r : StandingRecord) (n : Cycle) : Bool :=
  r.standing = .active && (match r.activeFrom with | some m => m = n || later n m | none => false)

/-- The digest list a slot holds for the cycle `n`. -/
def slotFor (n : Cycle) : Option PeerNotice → Option (List DigestEntry)
  | some x => if x.cycle = n then some x.digests else none
  | none => none

/-- A port's peer in the vote for `n` (R123): `none` when not expected, else the lane with its digest list if it is
present. -/
def State.ballot (s : State) (n : Cycle) (p : Port) : Option (Lane × Option (List DigestEntry)) :=
  match s.peer p with
  | some l => if (s.standings.get l).expectedIn n then some (l, slotFor n (s.slot p)) else none
  | none => none

/-- A peer that is not expected, or is present (R123). -/
def notMissing : Option (Lane × Option (List DigestEntry)) → Bool
  | some (_, none) => false
  | _ => true

/-- The outcome of a vote over the part's own list and the two peers (R125, R126). -/
def voteResult (own : List DigestEntry) :
    Option (Lane × Option (List DigestEntry)) → Option (Lane × Option (List DigestEntry)) → VoteOutcome × Option VoteReason
  | none, none => (.selfExcluded, some .isolated)
  | some (_, some d), none | none, some (_, some d) =>
    if d = own then (.agreed, none) else (.halted, some .differs)
  | some (_, none), none | none, some (_, none) => (.selfExcluded, some .isolated)
  | some (_, none), some (_, none) => (.selfExcluded, some .isolated)
  | some (_, some d), some (x, none) | some (x, none), some (_, some d) =>
    if d = own then (.otherExcluded x, some .absent) else (.halted, some .differs)
  | some (x, some d), some (y, some e) =>
    if d = own && e = own then (.agreed, none)
    else if d = e then (.selfExcluded, some .differs)
    else if d = own then (.otherExcluded y, some .differs)
    else if e = own then (.otherExcluded x, some .differs)
    else (.halted, some .differs)

/-- The pair a digest list carries for a table. DESIGN CHOICE (log 43): of a list that names a table twice, the first
entry is looked at. -/
def pairFor (ds : List DigestEntry) (n : Nat) : Option Pair := (ds.find? (·.table == n)).map (·.pair)

/-- The differing tables of the present lanes' lists (R124), ascending. DESIGN CHOICE (log 43): a received list may name
a table above 31, so the numbers run from 0 to 255 and may be more than the 32 of R128. -/
def differingTables (own : List DigestEntry) (others : List (List DigestEntry)) : List Nat :=
  (List.range 256).filter fun n => others.any fun ds => pairFor ds n ≠ pairFor own n

/-- The digest list of a ballot, as a list of none or one. -/
def ballotDigests : Option (Lane × Option (List DigestEntry)) → List (List DigestEntry)
  | some (_, some ds) => [ds]
  | _ => []

/-- The presence entry of a lane (R128). -/
def State.presence (s : State) (n : Cycle) (l : Lane) : Presence :=
  if s.ownLane = some l then .self
  else
    match s.portOf l with
    | some p =>
      match s.ballot n p with
      | some (_, some _) => .present
      | some (_, none) => .absent
      | none => .notExpected
    | none => .notExpected

/-- The confirmed flag is set; LANE-HEALTHY's wave begins with a rising edge (R127, R191). -/
def State.confirm (s : State) : State :=
  { s with confirmed := true, healthyPin := if s.laneHealthy then s.healthyPin else true }

/-- The slot of a lane is emptied (R122). -/
def State.emptySlot (s : State) (l : Lane) : State :=
  match s.portOf l with
  | some p => s.setSlot p none
  | none => s

/-- The slots that hold a notice for `n` are emptied (R127). -/
def State.emptySlotsFor (s : State) (n : Cycle) : State :=
  { s with slotX1 := if (slotFor n s.slotX1).isSome then none else s.slotX1
           slotX2 := if (slotFor n s.slotX2).isSome then none else s.slotX2 }

/-- The outcome of a vote applied (step 2 of R127), with the checks of R134. -/
def applyOutcome (c : Caused) : VoteOutcome → Option VoteReason → Caused
  | .agreed, _ => (c.1.confirm, c.2)
  | .otherExcluded x, _ =>
    standingChecks ((((c.1.setRecord x .excluded none .vote).emptySlot x).confirm).sendStandings, c.2)
  | .selfExcluded, reason =>
    standingChecks (c.1.leaveActive .excluded .vote, some (if reason = some .differs then .differs else .isolated))
  | .halted, _ => (c.1.leaveActive .halted .vote, some .differs)

/-- The vote of the open record is decided (R127). -/
def decideVote (c : Caused) (v : VoteRecord) (how : DecidedBy) : Caused :=
  let s := c.1
  let b1 := s.ballot v.cycle .x1
  let b2 := s.ballot v.cycle .x2
  let (outcome, reason) := voteResult v.digests b1 b2
  let notice : VoteNotice :=
    { cycle := v.cycle, outcome, reason, decidedBy := how
      presenceA := s.presence v.cycle .a, presenceB := s.presence v.cycle .b, presenceC := s.presence v.cycle .c
      differing := differingTables v.digests (ballotDigests b1 ++ ballotDigests b2) }
  let s1 := { s.emptySlotsFor v.cycle with lastVoted := v.cycle, vote := none }
  let c2 := applyOutcome (s1, c.2) outcome reason
  (c2.1.notify (.vote notice), c2.2)

/-- The vote is decided if a record is open and every expected peer is present (R123). -/
def tryDecide (c : Caused) : Caused :=
  match c.1.vote with
  | some v =>
    if c.1.part = .active && notMissing (c.1.ballot v.cycle .x1) && notMissing (c.1.ballot v.cycle .x2) then
      decideVote c v .allPresent
    else c
  | none => c

/-! ### The standing rule -/

/-- A peer record as reported: a report that leaves standing and active-from as they were changes nothing (R119); a
change to EXCLUDED or HALTED empties the peer's slot (R122). -/
def State.setPeer (s : State) (l : Lane) (st : Standing) (from_ : Option Cycle) (src : Source) : State :=
  let r := s.standings.get l
  if r.standing = st && r.activeFrom = from_ then s
  else
    let s1 := s.setRecord l st from_ src
    if st = .excluded || st = .halted then s1.emptySlot l else s1

/-- The sender's entry about itself (R131). -/
def State.selfReport (s : State) (z : Lane) (e : StandingEntry) : State :=
  match e.standing with
  | .joining | .excluded | .halted => s.setPeer z e.standing none .selfReport
  | .active =>
    match s.standingOf z with
    | .unknown | .joining => s.setPeer z .active e.activeFrom .selfReport
    | .active | .excluded | .halted => s
  | .unknown => s

/-- The sender's entry about the third lane, from an ACTIVE sender (R132). -/
def State.thirdReport (s : State) (w : Lane) (e : StandingEntry) : State :=
  if e.standing = .excluded || e.standing = .halted then s.setPeer w e.standing none .peerReport else s

/-- The sender's entry about the receiver, from an ACTIVE sender (R133). DESIGN CHOICE (log 18): where it fails a
resynchronisation (R161) and the same list changes other records, the FAULT NOTICE of RESYNC FAILED is queued before the
STANDING CHANGE NOTICE. -/
def State.ownReport (s : State) (e : StandingEntry) : Caused :=
  if e.standing = .excluded || e.standing = .halted then
    match s.part with
    | .active => (s.leaveActive .excluded .peerReport, some .excludedByPeer)
    | .receiving => (s.beginFailing .excludedByPeer (some .excludedByPeer), none)
    | .init | .config | .starting | .joining | .excluded | .halted => (s, none)
  else (s, none)

/-- After changes of the standing table: the checks of R134, and the vote if it can now be decided (R123). -/
def afterStandingChange (before : State) (c : Caused) : Caused :=
  if c.1.standings = before.standings && c.1.part = before.part then c else tryDecide (standingChecks c)

/-- A standing list taken from the peer of a port (R130): each entry's condition is tested on the table as it stood. -/
def applyList (s : State) (p : Port) (l : StandingList) : Caused :=
  match s.ownLane with
  | none => (s, none)
  | some own =>
    let z := peerOf own p
    let w := peerOf own (otherPort p)
    let good := s.standingOf z = .active
    let s1 := s.selfReport z (l.get z)
    let s2 := if good then s1.thirdReport w (l.get w) else s1
    let c := if good then s2.ownReport (l.get own) else (s2, none)
    afterStandingChange s c

/-- At the completion of a lane close in ACTIVE (R120): DIGEST NOTICE on both ports, the vote record, and the vote if
it can be decided at once. -/
def State.openVote (s : State) (n : Cycle) : State :=
  let ds := s.workingPairs TableKind.isVital
  let s1 := s.sendBoth (.digestNotice n s.standings.list ds)
  let s2 := { s1 with vote := some { cycle := n, digests := ds, timer := s1.timings.voteWindow } }
  closeStandings s.standings (tryDecide (s2, none))

end Sys2Proof.Machine
end

