-- ==== Sys2Proof/Machine/Change.lean ====
section
/-! DEFINITION. The change path (R32 to R39): the one route by which a working word of a table is changed. -/

namespace Sys2Proof.Machine
open Sys2Proof

/-- The digest state takes a change of word `k` of a table (R35): the working pair by the δ of R21, or the unsettled
flag when the old value is unknown (R23); while the establishing pass runs, R29. DESIGN CHOICE (log 28): where an
unknown old value returns the pass to offset 0 of its table, an access that the pass already has waiting is withdrawn,
and the pass asks again from there. -/
def State.digestChange (s : State) (t : Table) (k : Nat) (old : Option Word) (new : Word) : State :=
  match t.working with
  | some p =>
    match old with
    | some o => s.mapTable t.number fun u => { u with working := some (p.addDelta k (delta o new)) }
    | none => s.unsettle t.number
  | none =>
    match s.establish with
    | some e =>
      if (s.tables[e.index]?).map (·.number) = some t.number && k < e.offset then
        match old with
        | some o => { s with establish := some { e with sums := e.sums.addDelta k (delta o new) } }
        | none =>
          { s with establish := some { e with offset := 0, sums := t.seed, writeDue := false }
                   waiting := s.waiting.set .cycle false }
      else s
    | none => s

/-- The verify unit takes a change behind its cursor (R37, R94). -/
def State.verifyChange (s : State) (t : Table) (k : Nat) (old : Option Word) (new : Word) : State :=
  match s.verify with
  | some v =>
    if v.walk[v.index]? = some t.number && k < v.cursor then
      match old with
      | some o => { s with verify := some { v with sums := v.sums.addDelta k (delta o new) } }
      | none => { s with verify := some { v with skip := true } }
    else s
  | none => s

/-- An entry is appended to the outbound bulk queue, or the transfer aborts with UPDATE OVERFLOW (R151). -/
def State.appendBulk (s : State) (m : BulkMsg) : State :=
  match s.transfer with
  | some t =>
    if t.queue.length < Config.bulkQueueMax then { s with transfer := some { t with queue := t.queue ++ [m] } }
    else s.endServing .updateOverflow (some .updateOverflow)
  | none => s

/-- A changed word behind the serving cursor is forwarded (R38). -/
def State.forwardChange (s : State) (t : Table) (k : Nat) (old : Option Word) (new : Word) : State :=
  match s.transfer with
  | some tr =>
    if tr.phase = .sending && tr.behind t.number k && old ≠ some new then s.appendBulk (.update t.number k new) else s
  | none => s

/-- One change of a working word (R32 to R38): `old` is `none` when the old value is unknown. -/
def State.changeWord (s : State) (a : Nat) (old : Option Word) (new : Word) : State :=
  let s1 := (s.writeWord a new).unlose a
  match s1.tableAt a with
  | none => s1
  | some t =>
    match s1.part with
    | .init => s1
    | .config => { s1 with checkpointValid := false }
    | .starting | .active | .joining | .receiving | .excluded | .halted =>
      let k := a - t.base
      (((s1.digestChange t k old new).enterChange a).verifyChange t k old new).forwardChange t k old new

/-- What the read half of a change found. -/
inductive ChangeRead where
  /-- The old value is unknown: a lost word, written without a read. -/
  | lost
  /-- The old value. -/
  | value (old : Word)
  /-- Nothing: uncorrectable. -/
  | failed
deriving DecidableEq, Repr

/-- The read half of a change (R33): none for a lost word. -/
def State.changeRead (s : State) (a : Nat) (upset : BitVec 22) : State × ChangeRead :=
  if s.isLost a then (s, .lost)
  else
    match s.readWord a upset with
    | (s1, some v) => (s1, .value v)
    | (s1, none) => (s1, .failed)

end Sys2Proof.Machine
end

