-- ==== Sys2Proof/Machine/Loss.lean ====
section
/-! DEFINITION. The loss decision table (R73 to R82): the row of an uncorrectable read, and the row chosen again at
the read of the other copy. A row is the state after its actions within the access, and its store actions. -/

namespace Sys2Proof.Machine
open Sys2Proof

/-- A row taken: the state after what is done within the access, and the accesses that follow. -/
abbrev Row := State × List DecisionStep

/-- A close in flight is spoiled (R57). -/
def State.spoilClose (s : State) : State :=
  match s.close with
  | some c => { s with close := some { c with spoiled := true } }
  | none => s

/-- A full checkpoint copy of START COLD that runs is spoiled (R65). -/
def State.spoilFullCopy (s : State) : State :=
  match s.fullCopy with
  | some f => { s with fullCopy := some { f with spoiled := true } }
  | none => s

/-- The full checkpoint copy that is to follow the establishing pass of STARTING is spoiled (R77). -/
def State.spoilNextCopy (s : State) : State :=
  match s.establish with
  | some e => if s.part = .starting then { s with establish := some { e with spoiled := true } } else s
  | none => s

/-- The rollback in flight ends without completing (R69). -/
def State.endRollback (s : State) (st : Status) (f : ReplyFields) : State :=
  { s.withdraw .cycle with rollback := none }.answer st f

/-- A loss decision sets checkpoint-valid false (R51): a close in flight is spoiled (R57), and a rollback that held a
valid checkpoint ends with NO CHECKPOINT (R69). -/
def State.invalidate (s : State) : State :=
  let s1 := { s with checkpointValid := false }.spoilClose
  match s.checkpointValid, s1.rollback with
  | true, some r => s1.endRollback .noCheckpoint (.count r.restored)
  | _, _ => s1

/-- A word is to be written without the change path; WORD CLEARED names the word written (R76, R77, R82, log 12). -/
def clearRow (s : State) (address : Nat) (v : Word) : Row :=
  (s.record (s.wordFault .wordCleared address), [.clear address v])

/-- The STARTING row (R77): the safe value, through the change path for a working word. -/
def startingRow (s : State) (t : Table) (address : Nat) : Row :=
  if address < Config.workingWords then (s.record (s.wordFault .wordCleared address), [.safeChange address t.safe])
  else clearRow s address t.safe

/-- A working word that is not restorable (R79, R80); a word already on the lost list needs no action (R75). -/
def loseWord (s : State) (t : Table) (a first : Nat) : Row :=
  if s.isLost a then (s, [])
  else if s.lostList.length < Config.lostListMax then
    let s1 := ({ s with lostList := s.lostList ++ [a] }.enterChange a).unsettle t.number
    (s1.record (s1.wordFault .workingWordLost first), [])
  else (s.record (s.wordFault .lostOverflow first), [.safeChange a t.safe])

/-- A checkpoint copy that is not restorable (the first two rows of R82). -/
def loseCopy (s : State) (a first : Nat) : Row :=
  if s.checkpointValid && s.listed a then
    let s1 := s.invalidate
    (s1.record (s1.wordFault .checkpointWordLost first), [.clear (copyOf a) 0])
  else clearRow s (copyOf a) 0

/-- A word's own row where the pair is not restorable (R74). -/
def ownRow (s : State) (t : Table) (address first : Nat) : Row :=
  if address < Config.workingWords then loseWord s t address first else loseCopy s (pairOf address) first

/-- The word's pair may be restored from its other copy (R78, R82). -/
def State.restorable (s : State) (a : Nat) : Bool := !s.isLost a && !s.listed a && s.checkpointValid

/-- The row of an uncorrectable read (R73, R76 to R80, R82). -/
def firstRow (s : State) (address : Nat) : Row :=
  match s.tableAt (pairOf address) with
  | none => clearRow s address 0
  | some t =>
    match s.part with
    | .init => (s, [])
    | .config => clearRow s address 0
    | .starting => startingRow s t address
    | .active | .joining | .receiving | .excluded | .halted =>
      if s.restorable (pairOf address) then (s, [.readOther]) else ownRow s t address address

/-- Two rows in turn, the second only where the other copy has read uncorrectable too. -/
def bothRows (first : State → Row) (second : State → Row) (other : Option Word) (s : State) : Row :=
  let (s1, a1) := first s
  match other with
  | some _ => (s1, a1)
  | none =>
    let (s2, a2) := second s1
    (s2, a1 ++ a2)

/-- DOUBLE LOSS (R81): checkpoint-valid false, recorded; the copy first, then the working word. -/
def doubleLossRow (s : State) (t : Table) (a first : Nat) : Row :=
  let s1 := s.invalidate
  (s1.record (s1.wordFault .doubleLoss first), [.clear (copyOf a) t.safe, .safeChange a t.safe])

/-- The row chosen again at the read of the other copy (R74); `other` is its value, `none` when uncorrectable. -/
def secondRow (s : State) (first : Nat) (other : Option Word) : Row :=
  let a := pairOf first
  let second := otherCopy first
  match s.tableAt a with
  | none => bothRows (clearRow · first 0) (clearRow · second 0) other s
  | some t =>
    match s.part with
    | .init => (s, [])
    | .config => bothRows (clearRow · first 0) (clearRow · second 0) other s
    | .starting => bothRows (startingRow · t first) (startingRow · t second) other s
    | .active | .joining | .receiving | .excluded | .halted =>
      if s.restorable a then
        match other with
        | some v => (s, [.restore v])
        | none => doubleLossRow s t a first
      else bothRows (ownRow · t first first) (ownRow · t second first) other s

/-- The loss state with these store actions left; none left ends the decision (R73). -/
def lossOf (first : Nat) : List DecisionStep → Loss
  | [] => .idle
  | todo => .deciding { first, todo }

/-- A requester opens a decision on the pair of a word it has read uncorrectable (R73). -/
def State.openDecision (s : State) (r : Requester) (address : Nat) : State :=
  let (s1, todo) := firstRow s address
  s1.setLoss r (lossOf address todo)

/-- An uncorrectable read of a requester's ordinary work (R73, R75): the pair in another reader's decision is retried;
a lost working word opens none; else a decision is opened. -/
def State.meetLoss (s : State) (r : Requester) (address : Nat) : State :=
  let pair := pairOf address
  if s.decidedByOther r pair then s.setLoss r (.retrying pair)
  else if address < Config.workingWords && s.isLost address then s.setLoss r .idle
  else s.openDecision r address

end Sys2Proof.Machine
end

