-- ==== Sys2Proof/Machine/Verify.lean ====
section
/-! DEFINITION. The verify pass (R89 to R99): its start, the end of a table, its completion and its abort. -/

namespace Sys2Proof.Machine
open Sys2Proof

/-- The pass ends for good: its waiting access and decision end and its record is discarded. -/
def State.dropVerify (s : State) : State := { s.withdraw .verify with verify := none }

/-- The table at the cursor and the cursor, as a VERIFY NOTICE names the interrupted table (R97). -/
def VerifyPass.interrupted (v : VerifyPass) : Option (Nat × Nat) := v.walk[v.index]?.map fun n => (n, v.cursor)

/-- A running pass is stopped or aborted with its notice (R98, R99). -/
def State.abortVerify (s : State) (outcome : VerifyOutcome) : State :=
  match s.verify with
  | none => s
  | some v => s.dropVerify.notify (.verify outcome v.origin v.startCycle s.cycle v.results v.interrupted)

/-- The result of a table that ends (R95): the first of the four conditions that holds. -/
def State.verdict (s : State) (v : VerifyPass) (t : Table) : VerifyVerdict :=
  if v.skip || s.lostIn t then .skipped
  else if t.unsettled then .resettled
  else
    match t.working with
    | none => .agrees
    | some p => if p = v.sums then .agrees else .drift p

/-- The effect of a result on the table's digest state (R95). -/
def State.applyVerdict (s : State) (n : Nat) (sums : Pair) : VerifyVerdict → State
  | .skipped | .agrees => s
  | .resettled => s.mapTable n fun t => { t with working := some sums, unsettled := false }
  | .drift _ => s.mapTable n fun t => { t with working := some sums }

/-- The fault of a result: DIGEST DRIFT with the table, the pair replaced and the accumulator (R95, R167). -/
def State.recordDrift (s : State) (n : Nat) (sums : Pair) : VerifyVerdict → State
  | .drift p => s.record { s.bareFault .digestDrift with table := some n, pairs := some (p, sums) }
  | .skipped | .agrees | .resettled => s

/-- The pass with a table ended: at the next table of the walk list, or past the last. -/
def State.nextVerifyTable (s : State) (v : VerifyPass) (r : VerifyResult) : VerifyPass :=
  let seed := match v.walk[v.index + 1]?.bind s.table? with
    | some t => t.seed
    | none => v.sums
  { v with index := v.index + 1, cursor := 0, sums := seed, skip := false, results := v.results ++ [r] }

/-- The pass completes when its last table has ended (R96). -/
def State.completeVerify (s : State) : State :=
  match s.verify with
  | none => s
  | some v =>
    if v.index < v.walk.length then s
    else
      { s.dropVerify with kept := v.results }.notify
        (.verify .complete v.origin v.startCycle s.cycle v.results none)

/-- The table at the verify cursor ends (R95), and with the last table the pass (R96). -/
def State.endVerifyTable (s : State) : State :=
  match s.verify with
  | none => s
  | some v =>
    match v.walk[v.index]?.bind s.table? with
    | none => s
    | some t =>
      let verdict := s.verdict v t
      let s1 := s.applyVerdict t.number v.sums verdict
      let next := s.nextVerifyTable v { table := t.number, verdict, pair := v.sums }
      let s2 := { s1 with verify := some next }
      (s2.recordDrift t.number v.sums verdict).completeVerify

/-- The table at the cursor ends SKIPPED without a read (R92, R93). -/
def State.skipVerifyTable (s : State) : State :=
  match s.verify with
  | none => s
  | some v => { s.setLoss .verify .idle with verify := some { v with skip := true } }.endVerifyTable

/-- The accumulator takes the word at the cursor, and the cursor passes it (R92). -/
def State.verifyTake (s : State) (v : VerifyPass) (value : Word) : State :=
  let s1 := { s with verify := some { v with sums := v.sums.addWord v.cursor value, cursor := v.cursor + 1 } }
  match v.walk[v.index]?.bind s.table? with
  | some t => if v.cursor + 1 < t.length then s1 else s1.endVerifyTable
  | none => s1

/-- The pass asks for its first read (R90): each table, of the next `n`, whose first word is on the lost list ends
SKIPPED before a read of it is asked for (R92). -/
def State.askVerify (s : State) : Nat → State
  | 0 => s
  | n + 1 =>
    match s.verify.bind s.verifyWord with
    | some a =>
      if s.isLost a then s.skipVerifyTable.askVerify n else { s with waiting := s.waiting.set .verify true }
    | none => s

/-- A verify pass starts and asks for its first read (R90). With an empty walk list it completes at once (R96). -/
def State.startVerify (s : State) (origin : VerifyOrigin) : State :=
  match s.tablesOf TableKind.walked with
  | [] => { s with autoCount := 0, kept := [] }.notify (.verify .complete origin s.cycle s.cycle [] none)
  | t :: rest =>
    let v : VerifyPass :=
      { origin, startCycle := s.cycle, walk := (t :: rest).map (·.number), index := 0, cursor := 0, sums := t.seed,
        skip := false, results := [] }
    { s with autoCount := 0, verify := some v }.askVerify (rest.length + 1)

/-- The auto-verify count at the completion of a close (R61, R91). -/
def State.autoVerify (s : State) : State :=
  if s.timings.autoVerify = 0 then s
  else if s.autoCount + 1 < s.timings.autoVerify then { s with autoCount := s.autoCount + 1 }
  else if s.verify.isNone && s.establish.isNone
      && (s.part = .active || s.part = .excluded || s.part = .receiving) then
    s.startVerify .auto
  else { s with autoCount := 0 }

end Sys2Proof.Machine
end

