-- ==== Sys2Proof/Machine/Resync.lean ====
section
/-! DEFINITION. The resync unit: the choice of a donor (R142), granting (R147), the serving cursor and the blocks
(R149), the close marks (R152), and the receiving part's checks and completion (R156, R159). -/

namespace Sys2Proof.Machine
open Sys2Proof

/-! ### The joining part -/

/-- The candidate at a choice (R142): the lowest-lettered ACTIVE peer not asked in this join, with its port. -/
def State.candidate (s : State) (j : JoinRecord) : Option (Lane × Port) :=
  [Lane.a, Lane.b, Lane.c].findSome? fun l =>
    if s.standingOf l = .active && !j.asked.contains l then (s.portOf l).map fun p => (l, p) else none

/-- A donor is picked (R142), or the join fails (R144); `refusal` is the reason of the JOIN REFUSE that led to the
choice, if one did. -/
def State.pickDonor (s : State) (refusal : Option RefuseReason) : State :=
  match s.join with
  | none => s
  | some j =>
    match s.candidate j with
    | some (l, p) =>
      let s1 := s.setJoin
        { j with phase := .asking, asked := j.asked ++ [l], current := some l, last := some l,
                 timer := some s.timings.joinWait }
      s1.sendControl p (.joinAsk s.summary (s.workingPairs TableKind.isStatic) j.descriptor)
    | none =>
      s.failJoin (match refusal with
        | some r => .refused r
        | none => .noDonor)

/-- The list a range list stands for (R139): an empty one, every VITAL and LOCAL table whole. DESIGN CHOICE (log 41): of
more than 16 such tables each has its range, beyond the 0 to 16 of R141, R147, R155 and R163. -/
def State.expandRanges (s : State) (ranges : List Range) : List Range :=
  if ranges.isEmpty then
    (s.tablesOf TableKind.served).map fun t => { table := t.number, first := 0, count := t.length }
  else ranges

/-! ### The donor -/

/-- Whether a range names a word at an offset within it (log 29). -/
def State.rangeNames (s : State) (r : Range) (k : Nat) : Bool :=
  k < r.count && (match s.table? r.table with | some t => r.first + k < t.length | none => false)

/-- How many of these ranges, from their starts, name no word. -/
def State.emptyRanges (s : State) : List Range → Nat
  | [] => 0
  | r :: rest => if s.rangeNames r 0 then 0 else s.emptyRanges rest + 1

/-- The cursor after the words of the range before place `i` (R147, R149): the start of the next range that names a
word, or END. -/
def State.cursorFrom (s : State) (ranges : List Range) (i : Nat) : Nat := i + s.emptyRanges (ranges.drop i)

/-- The transfer record of a grant (R147). -/
def State.newTransfer (s : State) (l : Lane) (p : Port) (ranges : List Range) : TransferRecord :=
  let list := s.expandRanges ranges
  { lane := l, port := p, ranges := list, cursorRange := s.cursorFrom list 0, cursorOffset := 0, phase := .sending,
    opened := false, grantBegun := false, block := none, queue := [], wordsSent := 0, updatesSent := 0 }

/-- The refusal of a JOIN ASK (R146). -/
def State.askRefusal (s : State) (summary : List SummaryEntry) (statics : List DigestEntry) : Option RefuseReason :=
  if s.part ≠ .active then some .notActive
  else if s.transfer.isSome then some .serving
  else if summary ≠ s.summary then some .directoryMismatch
  else if statics ≠ s.workingPairs TableKind.isStatic then some .staticMismatch
  else none

/-- A JOIN ASK is granted (R147). DESIGN CHOICE (log 18): the RESYNC NOTICE SERVING is queued before the STANDING CHANGE
NOTICE of the asker's new record; and the JOIN GRANT and SERVING before the notices of what that record brings about, a
vote that can now be decided (R123) or the part's being ALONE (R134). -/
def State.grantJoin (s : State) (l : Lane) (p : Port) (ranges : List Range) : State :=
  let t := s.newTransfer l p ranges
  let s1 := { s with transfer := some t }
  let s2 := if s1.standingOf l = .joining then s1 else s1.setRecord l .joining none .selfReport
  let s3 := s2.setPort p ((s2.port p).queue { msg := .joinGrant s.cycle, opens := true })
  let s4 := s3.notify (.resync (some l) s.cycle (.serving t.ranges.length))
  closeStandings s.standings (afterStandingChange s (s4, none))

/-- A new block in assembly is begun at the cursor (R149). -/
def State.beginBlock (s : State) (t : TransferRecord) : State :=
  match t.ranges[t.cursorRange]? with
  | some r =>
    s.setTransfer
      { t with block := some { table := r.table, first := r.first + t.cursorOffset, values := [], complete := false } }
  | none => s

/-- A word is taken into the block, and the cursor passes it (R149, R150). -/
def State.blockTake (s : State) (t : TransferRecord) (b : Block) (value : Word) : State :=
  let values := b.values ++ [value]
  match t.ranges[t.cursorRange]? with
  | some r =>
    if s.rangeNames r (t.cursorOffset + 1) then
      s.setTransfer
        { t with cursorOffset := t.cursorOffset + 1,
                 block := some { b with values, complete := Config.requestWords ≤ values.length } }
    else
      s.setTransfer
        { t with cursorRange := s.cursorFrom t.ranges (t.cursorRange + 1), cursorOffset := 0,
                 block := some { b with values, complete := true } }
  | none => s

/-- At the completion of a donor close a block that is not complete is cut (R149). -/
def State.cutBlock (s : State) : State :=
  match s.transfer with
  | some t =>
    match t.block with
    | some b =>
      if b.complete then s
      else
        let s1 := match s.loss.donor with
          | .deciding _ => s
          | .idle | .retrying _ => s.withdraw .donor
        s1.setTransfer { t with block := if b.values.isEmpty then none else some { b with complete := true } }
    | none => s
  | none => s

/-- At the completion of a lane close while serving in SENDING a CLOSE MARK is appended (R152). -/
def State.appendMark (s : State) (c : Cycle) (note : ServingNote) : State :=
  match s.transfer with
  | some t =>
    if t.phase = .sending then
      if note = .atEnd then
        let s1 := s.appendBulk (.closeMark c (some (s.checkpointPairs TableKind.walked)))
        { s1 with transfer := s1.transfer.map fun u => { u with phase := .finalQueued } }
      else s.appendBulk (.closeMark c none)
    else s
  | none => s

/-- The transfer is opened at the first point after the JOIN GRANT has begun at which the port's control count is 0
(R148). -/
def State.openTransfer (s : State) : State :=
  match s.transfer with
  | some t =>
    if t.grantBegun && (s.port t.port).outstandingControl = 0 then s.setTransfer { t with opened := true }
    else s
  | none => s

/-! ### The receiving part -/

/-- A word lies in a range list. -/
def inRanges (ranges : List Range) (table offset : Nat) : Bool :=
  ranges.any fun r => r.table = table && r.first ≤ offset && offset < r.first + r.count

/-- Words of a received frame that the part can use (R156). -/
def State.wordsUsable (s : State) (ranges : List Range) (table first count : Nat) : Bool :=
  match s.table? table with
  | some t =>
    t.kind ≠ .static && first + count ≤ t.length
      && (List.range count).all fun i => inRanges ranges table (first + i)
  | none => false

/-- A bulk frame that the part can use (R156). -/
def State.frameUsable (s : State) (ranges : List Range) : BulkMsg → Bool
  | .imageBlock t f vs => s.wordsUsable ranges t f vs.length
  | .update t o _ => s.wordsUsable ranges t o 1
  | .closeMark _ none => true
  | .closeMark _ (some ds) => ds.map (·.table) = (s.tablesOf TableKind.walked).map (·.number)

/-- The merge of a peer's word with the local word under a rule (R17). -/
def mergeWord (rule : BitVec 4) (peer loc : Word) : Word :=
  let pick (i : Nat) (mask : Word) : Word := if rule.getLsbD i then mask else 0
  pick 0 (~~~peer &&& ~~~loc) ||| pick 1 (~~~peer &&& loc) ||| pick 2 (peer &&& ~~~loc) ||| pick 3 (peer &&& loc)

/-- The table, offset and peer's value of the next word of a frame in processing. -/
def frameWord : BulkMsg × Nat → Option (Nat × Nat × Word)
  | (.imageBlock t f vs, pos) => vs[pos]?.map fun v => (t, f + pos, v)
  | (.update t o v, 0) => some (t, o, v)
  | _ => none

/-- A received word has been written (R157): the count, the next word, or the end of the frame's processing. -/
def State.wordApplied (s : State) : State :=
  match s.receive with
  | some r =>
    match r.frame with
    | some (m, pos) =>
      let r1 := { r with applied := saturate Config.counterMax r.applied, frame := some (m, pos + 1) }
      let s1 := s.setReceive r1
      if (frameWord (m, pos + 1)).isSome then s1 else s1.freeProcessing
    | none => s
  | none => s

/-- The final check agrees: the part enters ACTIVE (R159). -/
def State.completeResync (s : State) (r : ReceiveRecord) (n : Cycle) : State :=
  let s1 := s.freeProcessing
  let s2 := ({ s1 with part := .active, receive := none, lastVoted := n, slotX1 := none, slotX2 := none, vote := none,
                       confirmed := false }.setOwn .active (some (successor n)) .selfReport).sendStandings
  let s3 := announce s.standings (standingChecks (s2, none))
  (s3.notify (.resync (some r.donor) n (.complete r.applied))).discardStray

/-- The close of a CLOSE MARK has completed (R158, R159). DESIGN CHOICE (log 41): a final mark whose pairs differ is not
counted in the marks taken (R155, R158). -/
def State.markClosed (s : State) : State :=
  match s.receive with
  | some r =>
    match r.frame with
    | some (.closeMark _ none, _) =>
      (s.setReceive
        { r with phase := .applying, marks := saturate Config.counterMax r.marks,
                 stall := some s.timings.stallTime }).freeProcessing
    | some (.closeMark n (some ds), _) =>
      if s.checkpointPairs TableKind.walked = ds then s.completeResync r n
      else s.failResync .mismatch (some .mismatch)
    | _ => s
  | none => s

/-- A failure-fill word has been written (R162). -/
def State.fillAdvance (s : State) : State :=
  match s.receive with
  | some r =>
    match s.vitalTables[r.fillTable]? with
    | some t =>
      if r.fillOffset + 1 < t.length then s.setReceive { r with fillOffset := r.fillOffset + 1 }
      else
        let s1 := s.setReceive { r with fillTable := r.fillTable + 1, fillOffset := 0 }
        if r.fillTable + 1 < s.vitalTables.length then s1 else s1.finishFill
    | none => s
  | none => s

end Sys2Proof.Machine
end

