-- ==== Sys2Proof/Machine/Cycle.lean ====
section
/-! DEFINITION. The cycle unit: the establishing pass (R27 to R30), the full checkpoint copy of START COLD (R65,
R189), the close (R54 to R64) and the rollback (R66 to R70). -/

namespace Sys2Proof.Machine
open Sys2Proof

/-! ### The full checkpoint copy -/

/-- A table at the start of an establishing pass (R27). -/
def Table.unestablish (t : Table) : Table := { t with working := none, checkpoint := none, unsettled := false }

/-- A table at the completion of a rollback (R68). -/
def Table.rollBack (t : Table) : Table := { t with working := t.checkpoint, unsettled := false }

/-- A table at the completion of a close (R26). -/
def Table.close (t : Table) : Table := { t with checkpoint := t.working }

/-- Every checkpoint pair is set equal to its working pair (R26). -/
def State.checkpointAll (s : State) : State :=
  { s with tables := s.tables.map Table.close }

/-- A record of the cold-start standings (R136). -/
def StandingRecord.coldStart : StandingRecord :=
  { standing := .active, activeFrom := some 1, source := some .coldStart }

/-- The cold-start standings (R136). -/
def Standings.coldStart : Standings := { a := .coldStart, b := .coldStart, c := .coldStart }

/-- The full checkpoint copy ends (R65), and the part enters ACTIVE (R136, R189). DEDUCED (log 22): in the reply each
working pair follows its table number, as in that of CLOSE CYCLE (R61). -/
def State.endFullCopy (s : State) (spoiled : Bool) : State :=
  let s1 := s.checkpointAll
  let s2 :=
    { s1 with
      cycle := 0, checkpointValid := !(spoiled || s.tables.any (·.unsettled)), fullCopy := none
      part := .active, standings := .coldStart, lastVoted := 0, slotX1 := none, slotX2 := none, vote := none
      confirmed := false }
  let s3 := announce s.standings (standingChecks (s2.sendStandings, none))
  s3.answer .done (.started s3.cycle s3.checkpointValid s3.totalLength (s3.workingPairs TableKind.isVital))

/-- The full checkpoint copy begins when the establishing pass has ended in STARTING (R189), spoiled if a write of the
STARTING row fell in the pass (R77). -/
def State.startFullCopy (s : State) (spoiled : Bool) : State :=
  if s.totalLength = 0 then s.endFullCopy spoiled
  else { s with fullCopy := some { position := 0, value := none, spoiled } }

/-- A word has been written to its checkpoint copy by the full copy (R65). -/
def State.fullCopyAdvance (s : State) (f : FullCopy) : State :=
  if f.position + 1 < s.totalLength then
    { s with fullCopy := some { f with position := f.position + 1, value := none } }
  else s.endFullCopy f.spoiled

/-! ### The establishing pass -/

/-- The establishing pass ends (R30): the full copy in STARTING, the choice of a donor in JOINING (R142). -/
def State.passEnd (s : State) : State :=
  let s1 := { s with establish := none }
  match s1.part with
  | .starting => s1.startFullCopy (s.establish.any (·.spoiled))
  | .joining => s1.pickDonor none
  | .init | .config | .active | .receiving | .excluded | .halted => s1

/-- The establishing pass starts (R27). -/
def State.startEstablish (s : State) : State :=
  let s1 :=
    { s with
      tables := s.tables.map Table.unestablish
      lostList := [], changeList := [], wide := false, checkpointValid := false }
  match s1.tables with
  | [] => s1.passEnd
  | t :: _ => { s1 with establish := some { index := 0, offset := 0, sums := t.seed, writeDue := false, spoiled := false } }

/-- The pass takes the value of the word at its cursor; the last word of a table finishes the table, and the last
table the pass (R28). -/
def State.establishTake (s : State) (e : Establish) (t : Table) (v : Word) : State :=
  let sums := e.sums.addWord e.offset v
  if e.offset + 1 < t.length then
    { s with establish := some { e with offset := e.offset + 1, sums, writeDue := false } }
  else
    let lost := s.lostIn t
    let s1 := s.mapTable t.number fun u => { u with working := some sums, unsettled := lost }
    match s1.tables[e.index + 1]? with
    | some n =>
      { s1 with establish := some { e with index := e.index + 1, offset := 0, sums := n.seed, writeDue := false } }
    | none => s1.passEnd

/-! ### The close -/

/-- A close ends without completing (R58, R59, R62). -/
def State.endClose (s : State) (st : Status) (f : ReplyFields) : State :=
  match s.close with
  | none => s
  | some c =>
    let s1 := { s.withdraw .cycle with close := none }
    match c.origin with
    | .lane => s1.answer st f
    | .mark => s1.failResync .localFault (some .localFault)

/-- What the completion of a close of origin LANE hands on (R61). -/
def State.laneClosed (s : State) (c : CloseRecord) : State :=
  let pairs := s.workingPairs TableKind.isVital
  let s1 := if s.part = .active then s.openVote c.cycle else s
  let s2 := s1.cutBlock.appendMark c.cycle c.note
  (s2.answer .done (.closed c.cycle c.kind c.position pairs)).autoVerify

/-- A close completes (R60), and hands its result on (R61, R62). DESIGN CHOICE (log 30): at the completion of a mark
close the auto-verify count is advanced, and a pass started (R91), before the resync unit's check. -/
def State.completeClose (s : State) (c : CloseRecord) : State :=
  let s1 := s.checkpointAll
  let s2 :=
    { s1 with cycle := c.cycle, checkpointValid := !c.spoiled, changeList := s.lostList, wide := false, close := none }
  match c.origin with
  | .lane => s2.laneClosed c
  | .mark => s2.autoVerify.markClosed

/-- The copy pass has handled its last covered word (R59, R60). -/
def State.finishCopy (s : State) (c : CloseRecord) : State :=
  if c.copyFailed then s.endClose .lost (.lostList s.lostNames) else s.completeClose c

/-- The copy pass goes on: past the last covered word it is finished. -/
def State.copyGoesOn (s : State) : State :=
  match s.close with
  | some c => if (s.closeWord c).isNone && c.pass = .copy then s.finishCopy c else s
  | none => s

/-- What the check pass looks at after a loss decision and after its last word (R58): the close may end with LOST or
UNSETTLED. -/
def State.checkLooks (s : State) : State :=
  if s.lostList ≠ [] then s.endClose .lost (.lostList s.lostNames)
  else if s.unsettledTables ≠ [] then s.endClose .unsettled (.tables s.unsettledTables)
  else s

/-- A covered word has passed the check (R58); after the last the pass becomes COPY. -/
def State.checkPassed (s : State) (c : CloseRecord) : State :=
  let s1 := s.setClose { c with position := c.position + 1 }
  if (s1.closeWord { c with position := c.position + 1 }).isSome then s1
  else if s.lostList ≠ [] || s.unsettledTables ≠ [] then s1.checkLooks
  else s1.setClose { c with position := 0, pass := .copy }

/-- A close is taken (R55). With an empty cover it completes at once. -/
def State.startClose (s : State) (origin : CloseOrigin) (n : Cycle) : State :=
  let kind := if s.wide || !s.checkpointValid then CloseKind.full else .partialKind
  let note := match s.transfer with
    | none => ServingNote.none
    | some t => if t.atEnd then .atEnd else .notAtEnd
  let c : CloseRecord :=
    { origin, cycle := n, kind, coverCount := if kind = .full then 0 else s.changeList.length, pass := .check,
      position := 0, spoiled := false, copyFailed := false, note, value := none, wroteCopy := false }
  if (s.closeWord c).isSome then s.setClose c else s.completeClose c

/-- A copy failure of the copy pass (R59): `a` is the covered word, and `uncorrectable` says that it has been read so,
and the loss decision table is then carried out. A close aborted by the recording makes no access of its own
(log 24). -/
def State.copyFailure (s : State) (c : CloseRecord) (a : Nat) (uncorrectable : Bool) : State :=
  let s1 := { s.setClose { c with copyFailed := true, spoiled := true, position := c.position + 1, value := none } with
    checkpointValid := false }
  let s2 := s1.record (s1.wordFault .copyFailure a)
  let s3 := if uncorrectable then s2.openDecision .cycle a else s2
  if s3.close.isNone then s3.withdraw .cycle
  else if s3.loss.cycle = .idle then s3.copyGoesOn
  else s3

/-! ### The rollback -/

/-- The word the rollback handles next: a covered word, or in the lost sweep the first lost word whose copy has not
failed (R67 to R69). -/
def State.rollbackWord (s : State) (r : RollbackRecord) : Option Nat :=
  if r.sweeping then s.lostList.find? fun a => !r.failedCopies.contains a else s.coverAt r.everyWord r.position

/-- A rollback completes (R68). -/
def State.completeRollback (s : State) (r : RollbackRecord) : State :=
  let s1 :=
    { s.withdraw .cycle with
      tables := s.tables.map Table.rollBack
      lostList := [], changeList := [], wide := false, rollback := none }
  (s1.abortVerify .aborted).answer .done (.count r.restored)

/-- The rollback has no word left: it completes, or ends with LOST after a copy failure (R68, R69). -/
def State.finishRollback (s : State) (r : RollbackRecord) : State :=
  if r.failedCopies.isEmpty then s.completeRollback r
  else s.endRollback .lost (.lostRollback s.lostNames r.restored)

/-- The rollback goes on with this record: to its lost sweep after the last covered word, and to its end after the
last lost word (R68). -/
def State.rollbackGoesOn (s : State) (r : RollbackRecord) : State :=
  let r1 := if !r.sweeping && (s.rollbackWord r).isNone then { r with sweeping := true } else r
  let s1 := s.setRollback r1
  if (s1.rollbackWord r1).isNone then s1.finishRollback r1 else s1

/-- The rollback has handled a word. -/
def State.rollbackAdvance (s : State) (r : RollbackRecord) (restored : Nat) : State :=
  s.rollbackGoesOn { r with position := r.position + 1, restored := r.restored + restored, value := none }

/-- A rollback is taken (R66). -/
def State.startRollback (s : State) : State :=
  s.rollbackGoesOn
    { everyWord := s.wide, position := 0, restored := 0, value := none, sweeping := false, failedCopies := [] }

/-- The rollback's own copy failure (R69). -/
def State.rollbackCopyFailure (s : State) (r : RollbackRecord) (a : Nat) : State :=
  let s1 := { s with checkpointValid := false }
  let s2 := s1.record (s1.wordFault .copyFailure (copyOf a))
  s2.rollbackAdvance { r with failedCopies := r.failedCopies ++ [a] } 0

end Sys2Proof.Machine
end

