-- ==== Sys2Proof/Machine/Links.lean ====
section
/-! DEFINITION. The transmitters (R110, R149, R179), the handling of bad, foreign and good cross-link frames (R103 to
R113), and the end of every event: the transmitters that are idle begin their next ready frame (log 14). -/

namespace Sys2Proof.Machine
open Sys2Proof

/-! ### The cross-link transmitters -/

/-- The transmitter of a port begins a frame (R100, R110). -/
def State.begin (s : State) (p : Port) (m : CrossMsg) : State :=
  let t : CrossTransmission :=
    { sender := s.ownLane, code := s.installation, msg := m, bytes := crossFrameBytes s.ownLane s.installation m,
      reopens := m == .creditReset }
  s.setPort p { s.port p with tx := some t }

/-- The transmission of a bulk frame begins, and the bulk count advances (R108). -/
def State.beginBulk (s : State) (p : Port) (m : BulkMsg) : State :=
  let s1 := s.begin p (.bulk m)
  s1.setPort p { s1.port p with outstandingBulk := (s1.port p).outstandingBulk + 1 }

/-- The resync unit is asked for a bulk frame of its transfer (R149). -/
def State.offerBulk (s : State) (t : TransferRecord) : State :=
  if t.opened then
    match t.block with
    | some b =>
      if b.complete then
        (s.setTransfer
          { t with block := none, wordsSent := saturateBy Config.counterMax t.wordsSent b.values.length }).beginBulk
            t.port (.imageBlock b.table b.first b.values)
      else s
    | none =>
      match t.queue with
      | m :: rest =>
        let sent := match m with
          | .update _ _ _ => saturate Config.counterMax t.updatesSent
          | .imageBlock _ _ _ | .closeMark _ _ => t.updatesSent
        (s.setTransfer { t with queue := rest, updatesSent := sent }).beginBulk t.port m
      | [] => if t.phase = .sending && !t.atEnd then s.beginBlock t else s
  else s

/-- The head of the control send queue is begun (R108, R110). -/
def State.beginControl (s : State) (p : Port) (e : SendEntry) (rest : List SendEntry) : State :=
  let s1 := s.begin p (.control e.msg)
  let s2 := s1.setPort p
    { s1.port p with send := rest, outstandingControl := (s1.port p).outstandingControl + 1 }
  if e.opens then { s2 with transfer := s2.transfer.map fun t => { t with grantBegun := true } } else s2

/-- An idle transmitter begins the first frame that is ready (R110). -/
def State.kickPort (s : State) (p : Port) : State :=
  let port := s.port p
  if port.tx.isSome || port.rx = .closed then s
  else if port.rx = .draining && !s.portProcessing p then s.begin p .creditReset
  else if 0 < port.pendingControl then
    (s.setPort p { port with pendingControl := port.pendingControl - 1 }).begin p (.credit .control)
  else if 0 < port.pendingBulk then
    (s.setPort p { port with pendingBulk := port.pendingBulk - 1 }).begin p (.credit .bulk)
  else
    match decide (port.outstandingControl < Config.controlSlots), port.send with
    | true, e :: rest => s.beginControl p e rest
    | _, _ =>
      match s.transfer with
      | some t => if t.port = p && port.outstandingBulk < Config.bulkSlots then s.offerBulk t else s
      | none => s

/-! ### The lane transmitter -/

/-- The lane transmitter begins a frame (R179). -/
def State.beginLane (s : State) (f : LaneOut) : State := { s with laneTx := some { frame := f, bytes := f.bytes } }

/-- An idle lane transmitter begins the first ready frame (R179). -/
def State.kickLane (s : State) : State :=
  if s.laneTx.isSome then s
  else
    match s.immediate, s.requests, s.notices with
    | r :: rest, _, _ => { s with immediate := rest }.beginLane (.reply r)
    | [], { progress := .ready r, .. } :: rest, _ => { s with requests := rest }.beginLane (.reply r)
    | [], _, n :: rest => { s with notices := rest }.beginLane (.notice n)
    | [], _, [] => s

/-- The end of an event: the idle transmitters begin what is ready. -/
def State.settle (s : State) : State := ((s.kickPort .x1).kickPort .x2).kickLane

/-! ### Receiving -/

/-- A port enters DRAINING (R111, R114): held frames flushed, pending credits 0. A CREDIT RESET under way does not
reopen the port (log 17). -/
def PortState.drain (p : PortState) : PortState :=
  { p with rx := .draining, control := [], bulk := [], pendingControl := 0, pendingBulk := 0
           tx := p.tx.map fun t => { t with reopens := false } }

/-- Both ports enter DRAINING (R115, R116). -/
def State.drainBoth (s : State) : State := { s with x1 := s.x1.drain, x2 := s.x2.drain }

/-- A fault of a frame at a port, with the expected peer as its lane (R104, R111). -/
def State.linkFault (s : State) (k : FaultKind) (p : Port) (why : FaultReason) : FaultEntry :=
  { s.bareFault k with lane := some (s.peer p), reason := some why }

/-- A bad frame or an overrun at a port (R111 to R113). -/
def State.badFrame (s : State) (p : Port) (why : FaultReason) : State :=
  match (s.port p).rx with
  | .closed => s
  | .draining => s.record (s.linkFault .linkFrameError p why)
  | .opened =>
    let s1 := s.record (s.linkFault .linkFrameError p why)
    let s2 := s1.setPort p (s1.port p).drain
    match s2.receive with
    | some r => if r.port = p then s2.failResync .link (some .link) else s2
    | none => s2

/-- The reason for which a frame is foreign to a port (R103, R104). -/
def State.foreign (s : State) (p : Port) (sender : Byte) (code : Code) : Option FaultReason :=
  match s.peer p with
  | none => some .lane
  | some l =>
    if sender.toNat ≠ laneCode (some l) then some .lane
    else if code ≠ s.installation then some .installation
    else none

/-- A free slot of a message's class (R105); link frames need none. -/
def State.slotFree (s : State) (p : Port) : CrossMsg → Bool
  | .control _ => (s.port p).control.length < Config.controlSlots
  | .bulk _ => (s.port p).bulk.length + (if s.portProcessing p then 1 else 0) < Config.bulkSlots
  | .credit _ | .creditReset => true

/-- The credit of a slot that a frame took and freed at once. -/
def PortState.returnCredit (p : PortState) : CrossMsg → PortState
  | .control _ => p.creditControl 1
  | .bulk _ => p.creditBulk 1
  | .credit _ | .creditReset => p

/-- A foreign frame (R104). -/
def State.foreignFrame (s : State) (p : Port) (m : CrossMsg) (why : FaultReason) : State :=
  if (s.port p).rx = .opened && !s.slotFree p m then s.badFrame p .overrun
  else
    let s1 := s.record (s.linkFault .foreignFrame p why)
    s1.setPort p ((s1.port p).returnCredit m)

/-- A good frame (R103, R105 to R107, R111, R112). -/
def State.goodFrame (s : State) (p : Port) (m : CrossMsg) : State :=
  let port := s.port p
  match m with
  | .credit .control =>
    (s.setPort p { port with outstandingControl := port.outstandingControl - 1 }).openTransfer
  | .credit .bulk => s.setPort p { port with outstandingBulk := port.outstandingBulk - 1 }
  | .creditReset =>
    let s1 := s.setPort p { port with outstandingControl := 0, outstandingBulk := 0 }
    match s1.transfer with
    | some t => if t.port = p then s1.endServing .link none else s1
    | none => s1
  | .control msg =>
    if port.rx = .opened then
      if s.slotFree p m then s.setPort p { port with control := port.control ++ [msg] } else s.badFrame p .overrun
    else s
  | .bulk msg =>
    if port.rx = .opened then
      if s.slotFree p m then
        if s.receivesOn p then s.setPort p { port with bulk := port.bulk ++ [msg] }
        else s.setPort p (port.creditBulk 1)
      else s.badFrame p .overrun
    else s

/-- A frame that arrives at a port in OPEN or DRAINING (R103). -/
def State.crossArrival (s : State) (p : Port) (kind cls sender : Byte) (code : Code) (body : List Byte)
    (crc : BitVec 32) : State :=
  if crc ≠ crc32 (crossCovered kind cls sender code body) then s.badFrame p .crc
  else
    match parseCross kind body with
    | none => s.badFrame p .format
    | some m =>
      if cls.toNat ≠ m.classCode then s.badFrame p .format
      else
        match s.foreign p sender code with
        | some why => s.foreignFrame p m why
        | none => s.goodFrame p m

/-- The receiver of a port leaves the frame it is inside and hunts (R103). -/
def State.hunt (s : State) (p : Port) : State := s.setPort p { s.port p with inside := false }

/-- A frame of a port ends in reception: a CLOSED port ignores it (R103). -/
def State.crossReceived (s : State) (p : Port) (deal : State → State) : State :=
  if (s.port p).inside then
    let s1 := s.hunt p
    (if (s1.port p).rx = .closed then s1 else deal s1).settle
  else s

/-- CROSS_FRAME_ARRIVAL (R103). -/
def execCrossFrameArrival (p : Port) (kind cls sender : Byte) (code : Code) (body : List Byte) (crc : BitVec 32)
    (s : State) : Host.Outcome State Fault Refusal :=
  .next (if body.length ≤ 1024 then s.crossReceived p fun s1 => s1.crossArrival p kind cls sender code body crc else s)

/-- CROSS_LENGTH_FIELD_BAD (R103). -/
def execCrossLengthFieldBad (p : Port) (length : BitVec 16) (s : State) : Host.Outcome State Fault Refusal :=
  .next (if crossLengthBad length then s.crossReceived p fun s1 => s1.badFrame p .format else s)

/-- CROSS_IDLE_GAP (R103, R176). -/
def execCrossIdleGap (p : Port) (s : State) : Host.Outcome State Fault Refusal :=
  .next (s.crossReceived p fun s1 => s1.badFrame p .format)

/-- CROSS_START_BYTE (R103). -/
def execCrossStartByte (p : Port) (s : State) : Host.Outcome State Fault Refusal :=
  .next (s.setPort p { s.port p with inside := true })

/-- A bulk mark is final. -/
def BulkMsg.isFinal : BulkMsg → Bool
  | .closeMark _ (some _) => true
  | _ => false

/-- The transmission of the final mark of the transfer has ended (R152). -/
def State.finalSent (s : State) (p : Port) : State :=
  match s.transfer with
  | some t =>
    if t.port = p && t.phase = .finalQueued && !t.queue.any BulkMsg.isFinal then
      s.setTransfer { t with phase := .awaitingVerdict }
    else s
  | none => s

/-- What the end of a transmission brings about: a CREDIT RESET reopens its port (R110), the final mark leaves the
donor awaiting the verdict (R152). -/
def State.sent (s : State) (p : Port) (t : CrossTransmission) : State :=
  match t.msg with
  | .creditReset => if t.reopens then s.setPort p { s.port p with rx := .opened } else s
  | .bulk m => if m.isFinal then s.finalSent p else s
  | .credit _ | .control _ => s

/-- CROSS_TRANSMIT_END (R110). -/
def execCrossTransmitEnd (p : Port) (s : State) : Host.Outcome State Fault Refusal :=
  match (s.port p).tx with
  | some t => .next ((s.setPort p { s.port p with tx := none }).sent p t).settle
  | none => .next s

end Sys2Proof.Machine
end

