-- ==== Sys2Proof/Machine/Decide.lean ====
section
/-! DEFINITION. The accesses of a loss decision (R74, R76 to R82), what each reader does when its decision has ended
(R41, R46, R58, R93, R150, R157), and the scrub unit (R84 to R88). -/

namespace Sys2Proof.Machine
open Sys2Proof

/-! ### After a decision -/

/-- The request in service ends with LOST and names the word (R41, R46). -/
def State.answerLost (s : State) (a : Nat) : State :=
  s.answer .lost (match s.wordName a with
    | some (t, o) => .lostWord t o
    | none => .none)

/-- The lane request after a loss: READ and WRITE MASKED end with LOST at a lost word (R41, R46). -/
def State.resumeLane (s : State) : State :=
  match s.lookWord .lane with
  | some a => if s.isLost a then s.answerLost a else s
  | none => s

/-- The cycle unit after a loss: what the check pass looks at (R58), or the end of the copy pass (R59). -/
def State.resumeCycle (s : State) : State :=
  match s.close with
  | some c => if c.pass = .check then s.checkLooks else s.copyGoesOn
  | none => s

/-- The receiving part after a loss: a word lost under a received frame fails the resynchronisation (R157). -/
def State.resumeJoiner (s : State) : State :=
  match s.receive with
  | some r =>
    if r.phase = .applying then
      match r.frame.bind frameWord with
      | some (n, o, _) =>
        match s.table? n with
        | some t => if s.isLost (t.base + o) then s.failResync .localFault (some .localFault) else s
        | none => s
      | none => s
    else s
  | none => s

/-- The donor after a loss: a lost source word ends serving (R150). -/
def State.resumeDonor (s : State) : State :=
  match s.transfer.bind (·.block) with
  | some b =>
    match s.blockWord b with
    | some a => if !b.complete && s.isLost a then s.endServing .sourceLost (some .sourceLost) else s
    | none => s
  | none => s

/-- The verify unit after a loss: the table of a lost word ends SKIPPED (R93). -/
def State.resumeVerify (s : State) : State :=
  match s.verify.bind s.verifyWord with
  | some a => if s.isLost a then s.skipVerifyTable else s
  | none => s

/-- A requester goes on with its own work after a loss (R73). -/
def State.resume (s : State) : Requester → State
  | .lane => s.resumeLane
  | .cycle => s.resumeCycle
  | .joiner => s.resumeJoiner
  | .donor => s.resumeDonor
  | .verify => s.resumeVerify
  | .scrub => s

/-- A requester with no decision open goes on. -/
def State.settleLoss (s : State) (r : Requester) : State :=
  match s.loss.get r with
  | .idle => s.resume r
  | .retrying _ | .deciding _ => s

/-- An uncorrectable read of a requester's ordinary work, and what follows within the access. -/
def State.loses (s : State) (r : Requester) (a : Nat) : State := (s.meetLoss r a).settleLoss r

/-- The grant of an access of ordinary work: the state with the requester's retry over. -/
def State.grantWork (s : State) (g : Grant) (r : Requester) (access : Access) : Option State :=
  match s.grant g access with
  | some (_, s1) => some (s1.setLoss r .idle)
  | none => none

/-! ### The decision accesses -/

/-- The decision of a requester. -/
def State.decisionOf (s : State) (r : Requester) : Option Decision :=
  match s.loss.get r with
  | .deciding d => some d
  | .idle | .retrying _ => none

/-- The decision of a requester goes on with these store actions left; with none left the requester resumes. -/
def State.decideOn (s : State) (r : Requester) (first : Nat) (todo : List DecisionStep) : State :=
  (s.setLoss r (lossOf first todo)).settleLoss r

/-- The effects on flags that every write of a decision to a table word has: it spoils a full copy (R65), and in
CONFIG sets checkpoint-valid false (R51). -/
def State.decisionFlags (s : State) (address : Nat) : State :=
  match s.tableAt (pairOf address) with
  | none => s
  | some _ =>
    let s1 := s.spoilFullCopy
    if s1.part = .config then { s1 with checkpointValid := false } else s1

/-- The effects on flags of a write of 0 or of a safe value: besides those of any write of a decision, one to a table
word in STARTING spoils a full copy that has not begun (R77). DESIGN CHOICE (log 39): whichever row chose the write. -/
def State.replacementFlags (s : State) (address : Nat) : State :=
  match s.tableAt (pairOf address) with
  | none => s
  | some _ => (s.decisionFlags address).spoilNextCopy

/-- A write of 0 or a safe value without the change path: besides, one to a table checkpoint copy sets
checkpoint-valid false (R51, R57). DESIGN CHOICE (log 44): it touches no working pair and no sum of an establishing pass,
also where the CONFIG row (R77) chose it and it is granted in STARTING behind the pass cursor (R29, R32). -/
def State.clearWrite (s : State) (address : Nat) (v : Word) : State :=
  let s1 := (s.writeWord address v).replacementFlags address
  if Config.workingWords ≤ address && (s1.tableAt (pairOf address)).isSome then s1.invalidate else s1

/-- A restoring rewrite of the first word (R78, R82), with its fault. DESIGN CHOICE (log 44): it touches no digest, also
where it was chosen before a JOIN and is granted behind the cursor of the establishing pass, over the pass's own safe
value (R28, R29, R32). -/
def State.restoreWrite (s : State) (first : Nat) (v : Word) : State :=
  let s1 := (s.writeWord first v).decisionFlags first
  s1.record (s1.wordFault
    (if first < Config.workingWords then .workingWordRestored else .checkpointWordRestored) first)

/-- A change of a decision released into the copy pass of a close spoils the close (R56, R57). -/
def State.releaseSpoils (s : State) (pair : Nat) : State :=
  match s.close with
  | some c => if c.pass = .copy && s.loss.cycle = .retrying pair then s.spoilClose else s
  | none => s

/-- The replacement of a working word with a safe value through the change path, old value unknown (R77, R80,
R81). -/
def State.safeChange (s : State) (a : Nat) (v : Word) : State :=
  ((s.releaseSpoils a).changeWord a none v).replacementFlags a

/-- The read of the other copy, and the row chosen again (R74). -/
def State.otherRead (s : State) (r : Requester) (first : Nat) (upset : BitVec 22) : State :=
  let (s1, other) := (s.setLoss r .idle).readWord (otherCopy first) upset
  let (s2, todo) := secondRow s1 first other
  s2.decideOn r first todo

/-- DECISION_OTHER_READ (R74). -/
def execDecisionOtherRead (g : Grant) (s : State) : Host.Outcome State Fault Refusal :=
  .next (match s.grant g .decisionOther with
    | some (r, s1) =>
      match s1.decisionOf r with
      | some { first, todo := .readOther :: _ } => (s1.otherRead r first g.upset).settle
      | _ => s
    | none => s)

/-- DECISION_CLEAR_WRITE (R76, R77, R81, R82). -/
def execDecisionClearWrite (g : Grant) (s : State) : Host.Outcome State Fault Refusal :=
  .next (match s.grant g .decisionClear with
    | some (r, s1) =>
      match s1.decisionOf r with
      | some { first, todo := .clear a v :: rest } => (((s1.setLoss r .idle).clearWrite a v).decideOn r first rest).settle
      | _ => s
    | none => s)

/-- DECISION_RESTORE_WRITE (R78, R82). -/
def execDecisionRestoreWrite (g : Grant) (s : State) : Host.Outcome State Fault Refusal :=
  .next (match s.grant g .decisionRestore with
    | some (r, s1) =>
      match s1.decisionOf r with
      | some { first, todo := .restore v :: rest } => (((s1.setLoss r .idle).restoreWrite first v).decideOn r first rest).settle
      | _ => s
    | none => s)

/-- DECISION_SAFE_CHANGE (R77, R80, R81). -/
def execDecisionSafeChange (g : Grant) (s : State) : Host.Outcome State Fault Refusal :=
  .next (match s.grant g .decisionSafe with
    | some (r, s1) =>
      match s1.decisionOf r with
      | some { first, todo := .safeChange a v :: rest } => (((s1.setLoss r .idle).safeChange a v).decideOn r first rest).settle
      | _ => s
    | none => s)

/-! ### The scrub unit -/

/-- The tick interval of the timings (R85). -/
def Timings.tickInterval (t : Timings) : Nat := t.prescale * (t.period + 1)

/-- PACE_TICK (R86). -/
def execPaceTick (s : State) : Host.Outcome State Fault Refusal :=
  .next (match s.pace with
    | none => s
    | some _ =>
      let s1 := { s with pace := some s.timings.tickInterval }
      match s1.scrubState with
      | .stopped => s1
      | .idle => { s1 with waiting := s1.waiting.set .scrub true }
      | .waiting | .deciding | .held => { s1 with scrubLag := saturate Config.counterMax s1.scrubLag })

/-- The scrub cursor passes an address (R87). -/
def State.scrubPass (s : State) : State :=
  if s.scrubCursor + 1 < Config.storeWords then { s with scrubCursor := s.scrubCursor + 1 }
  else { s with scrubCursor := 0, scrubPasses := if s.scrubPasses < Config.counterMax then s.scrubPasses + 1 else 0 }

/-- What the scrub unit does with the word it reads (R75, R87). -/
def State.scrubWord (s : State) (a : Nat) (upset : BitVec 22) : State :=
  if a < Config.workingWords && s.isLost a then s.disturb a upset
  else
    match s.readWord a upset with
    | (s1, some _) => s1
    | (s1, none) => if s1.decidedByOther .scrub (pairOf a) then s1 else s1.openDecision .scrub a

/-- SCRUB_READ (R87). -/
def execScrubRead (g : Grant) (s : State) : Host.Outcome State Fault Refusal :=
  .next (match s.grant g .scrubRead with
    | some (_, s1) => (s1.scrubPass.scrubWord s.scrubCursor g.upset).settle
    | none => s)

end Sys2Proof.Machine
end

