-- ==== Sys2Proof/Machine/CycleAccess.lean ====
section
/-! DEFINITION. The accesses of the cycle unit: the check pass (R58) and the copy pass (R59) of a close, the rollback
(R67 to R69), the establishing pass (R28) and the full checkpoint copy (R65). -/

namespace Sys2Proof.Machine
open Sys2Proof

/-- CLOSE_CHECK_READ (R58): the close of record `c` is in its check pass. -/
def State.closeCheck (s : State) (c : CloseRecord) (g : Grant) : State :=
  if s.looksLost .cycle then (s.setLoss .cycle .idle).checkLooks.settle
  else
    match s.grantWork g .cycle .closeCheck with
    | none => s
    | some s1 =>
      match s1.closeWord c with
      | none => s
      | some a =>
        match s1.readWord a g.upset with
        | (s2, some _) => (s2.checkPassed c).settle
        | (s2, none) => (s2.loses .cycle a).settle

/-- CLOSE_CHECK_READ (R58). -/
def execCloseCheckRead (g : Grant) (s : State) : Host.Outcome State Fault Refusal :=
  .next (match s.close with
    | some c => if c.pass = .check then s.closeCheck c g else s
    | none => s)

/-- An uncorrectable read of the copy pass (R59): the pair may be in another reader's decision (R75), whose change, if
it has one to make, is released and spoils the close (R56, R57). -/
def State.copyReadLost (s : State) (c : CloseRecord) (a : Nat) : State :=
  if s.decidedByOther .cycle a then
    (if s.changeDueOn a then s.spoilClose else s).setLoss .cycle (.retrying a)
  else s.copyFailure c a true

/-- A granted access of the copy pass: the read of the working word at `a`, or the write of its value to its copy. -/
def State.copyAccess (s : State) (c : CloseRecord) (a : Nat) (upset : BitVec 22) : State :=
  match c.value with
  | some v =>
    ((s.writeWord (copyOf a) v).setClose { c with position := c.position + 1, value := none, wroteCopy := true }).copyGoesOn
  | none =>
    match s.readWord a upset with
    | (s1, some v) => s1.setClose { c with value := some v }
    | (s1, none) => s1.copyReadLost c a

/-- CLOSE_COPY_ACCESS (R59): the close of record `c` is in its copy pass. -/
def State.closeCopy (s : State) (c : CloseRecord) (g : Grant) : State :=
  match s.closeWord c with
  | none => s
  | some a =>
    if s.looksLost .cycle then ((s.setLoss .cycle .idle).copyFailure c a false).settle
    else
      match s.grantWork g .cycle .closeCopy with
      | some s1 => (s1.copyAccess c a g.upset).settle
      | none => s

/-- CLOSE_COPY_ACCESS (R59). -/
def execCloseCopyAccess (g : Grant) (s : State) : Host.Outcome State Fault Refusal :=
  .next (match s.close with
    | some c => if c.pass = .copy then s.closeCopy c g else s
    | none => s)

/-- The rollback's access to a working word, once it has the checkpoint value (R67). -/
def State.rollbackRestore (s : State) (r : RollbackRecord) (a : Nat) (v : Word) (upset : BitVec 22) : State :=
  match s.changeRead a upset with
  | (s1, .lost) => (s1.changeWord a none v).rollbackAdvance r 1
  | (s1, .value o) => if o = v then s1.rollbackAdvance r 0 else (s1.changeWord a (some o) v).rollbackAdvance r 1
  | (s1, .failed) => s1.loses .cycle a

/-- A granted access of the rollback (R67, R69). DEDUCED (log 25): an uncorrectable copy whose pair is in a decision
with its change held is read again after that change (R56); every other one is a copy failure. -/
def State.rollbackAccess (s : State) (r : RollbackRecord) (a : Nat) (upset : BitVec 22) : State :=
  match r.value with
  | some v => s.rollbackRestore r a v upset
  | none =>
    match s.readWord (copyOf a) upset with
    | (s1, some v) => s1.setRollback { r with value := some v }
    | (s1, none) =>
      if s1.changeHeldOn a then s1.setLoss .cycle (.retrying a) else s1.rollbackCopyFailure r a

/-- ROLLBACK_ACCESS (R67). -/
def execRollbackAccess (g : Grant) (s : State) : Host.Outcome State Fault Refusal :=
  .next (match s.rollback with
    | some r =>
      match s.rollbackWord r, s.grantWork g .cycle .rollback with
      | some a, some s1 => (s1.rollbackAccess r a g.upset).settle
      | _, _ => s
    | none => s)

/-- The table and the store address at the cursor of the establishing pass. -/
def State.establishWord (s : State) (e : Establish) : Option (Table × Nat) :=
  s.tables[e.index]?.map fun t => (t, t.base + e.offset)

/-- ESTABLISHING_READ (R28). -/
def execEstablishingRead (g : Grant) (s : State) : Host.Outcome State Fault Refusal :=
  .next (match s.establish with
    | some e =>
      match s.establishWord e, s.grantWork g .cycle .establishRead with
      | some (t, a), some s1 =>
        match s1.readWord a g.upset with
        | (s2, some v) => (s2.establishTake e t v).settle
        | (s2, none) => { s2 with establish := some { e with writeDue := true } }.settle
      | _, _ => s
    | none => s)

/-- The pass's own write of the safe value, with its fault (R28). -/
def State.establishReplace (s : State) (e : Establish) (t : Table) (a : Nat) : State :=
  let s1 := s.writeWord a t.safe
  ((s1.record (s1.wordFault .wordCleared a)).unlose a).establishTake e t t.safe

/-- ESTABLISHING_SAFE_WRITE (R28). -/
def execEstablishingSafeWrite (g : Grant) (s : State) : Host.Outcome State Fault Refusal :=
  .next (match s.establish with
    | some e =>
      match s.establishWord e, s.grantWork g .cycle .establishWrite with
      | some (t, a), some s1 => (s1.establishReplace e t a).settle
      | _, _ => s
    | none => s)

/-- A granted access of the full checkpoint copy (R65). -/
def State.fullCopyAccess (s : State) (f : FullCopy) (upset : BitVec 22) : State :=
  match f.value with
  | some v => (s.writeWord (copyOf f.position) v).fullCopyAdvance f
  | none =>
    match s.readWord f.position upset with
    | (s1, some v) => { s1 with fullCopy := some { f with value := some v } }
    | (s1, none) => s1.loses .cycle f.position

/-- FULL_COPY_ACCESS (R65). -/
def execFullCopyAccess (g : Grant) (s : State) : Host.Outcome State Fault Refusal :=
  .next (match s.fullCopy with
    | some f =>
      match s.grantWork g .cycle .fullCopy with
      | some s1 => (s1.fullCopyAccess f g.upset).settle
      | none => s
    | none => s)

end Sys2Proof.Machine
end

