-- ==== Sys2Proof/Machine/Image.lean ====
section
/-! DEFINITION. The image requests: READ, WRITE, WRITE MASKED and SAFE FILL (R40 to R47), from their checks to the
accesses of their words. -/

namespace Sys2Proof.Machine
open Sys2Proof

/-- The request that has just entered service (R178). -/
def State.entering (s : State) : Option Request :=
  match s.serving? with
  | some e => if e.progress = .waiting then some e.request else none
  | none => none

/-! ### Taking the requests -/

/-- The table of a writing request after the checks of R43, or the status of the refusal. -/
def State.writeTable (s : State) (n : Nat) : Except Status Table :=
  if s.part = .init then .error .wrongState
  else
    match s.table? n with
    | none => .error .noTable
    | some t =>
      match t.kind, s.part with
      | .static, .config => .ok t
      | .static, _ => .error (.refused .static)
      | .vital, .config | .vital, .active => .ok t
      | .vital, _ => .error .wrongState
      | .localKind, .config | .localKind, .active | .localKind, .excluded | .localKind, .receiving => .ok t
      | .localKind, _ => .error .wrongState

/-- READ is checked and started (R40). -/
def State.takeRead (s : State) (n first count : Nat) : State :=
  if s.part = .init then s.answer .wrongState .none
  else
    match s.table? n with
    | none => s.answer .noTable .none
    | some t =>
      if count = 0 || Config.requestWords < count then s.answer .range .none
      else if t.length ≤ first then s.answer .range .none
      else s.work (.read (min count (t.length - first)) [])

/-- WRITE is checked and started (R44). -/
def State.takeWrite (s : State) (n first count : Nat) : State :=
  match s.writeTable n with
  | .error st => s.answer st .none
  | .ok t =>
    if count = 0 || Config.requestWords < count || t.length < first + count then s.answer .range .none
    else s.work (.write 0)

/-- WRITE MASKED is checked and started (R46). -/
def State.takeMasked (s : State) (n offset : Nat) : State :=
  match s.writeTable n with
  | .error st => s.answer st .none
  | .ok t =>
    if t.length ≤ offset then s.answer .range .none
    else if s.isLost (t.base + offset) then s.answer .lost (.lostWord n offset)
    else s.work .masked

/-- SAFE FILL is checked and started (R47). -/
def State.takeFill (s : State) (n : Nat) : State :=
  match s.writeTable n with
  | .error st => s.answer st .none
  | .ok _ => s.work (.fill 0)

/-- READ enters service (R40). -/
def execRead (s : State) : Host.Outcome State Fault Refusal :=
  .next (match s.entering with
    | some (.read t first count) => (s.takeRead t first count).settle
    | _ => s)

/-- WRITE enters service (R44). -/
def execWrite (s : State) : Host.Outcome State Fault Refusal :=
  .next (match s.entering with
    | some (.write t first count _) => (s.takeWrite t first count).settle
    | _ => s)

/-- WRITE MASKED enters service (R46). -/
def execWriteMasked (s : State) : Host.Outcome State Fault Refusal :=
  .next (match s.entering with
    | some (.writeMasked t offset _ _) => (s.takeMasked t offset).settle
    | _ => s)

/-- SAFE FILL enters service (R47). -/
def execSafeFill (s : State) : Host.Outcome State Fault Refusal :=
  .next (match s.entering with
    | some (.safeFill t) => (s.takeFill t).settle
    | _ => s)

/-! ### The accesses of their words -/

/-- A word of a READ has been read (R40, R41). -/
def State.readTaken (s : State) (t first actual : Nat) (values : List Word) : State :=
  if values.length < actual then s.work (.read actual values)
  else s.answer .done (.values t first actual values)

/-- A granted access of a READ (R41). -/
def State.laneRead (s : State) (t first actual : Nat) (values : List Word) (a : Nat) (upset : BitVec 22) : State :=
  match s.readWord a upset with
  | (s1, some v) => s1.readTaken t first actual (values ++ [v])
  | (s1, none) => s1.loses .lane a

/-- LANE_WORD_READ (R41): a READ whose next word is lost ends with LOST, else its granted access is made. -/
def execLaneWordRead (g : Grant) (s : State) : Host.Outcome State Fault Refusal :=
  .next (match s.serving?, s.laneWord with
    | some { request := .read t first _, progress := .serving (.read actual values), .. }, some a =>
      if s.looksLost .lane then ((s.setLoss .lane .idle).answerLost a).settle
      else
        match s.grantWork g .lane .laneRead with
        | some s1 => (s1.laneRead t first actual values a g.upset).settle
        | none => s
    | _, _ => s)

/-- A writing request whose table may no longer be written ends with the number of words written (R45). -/
def State.stopWriting (s : State) (done : Nat) : State := (s.withdraw .lane).answer .wrongState (.count done)

/-- What a writing request writes to its next word. -/
inductive LaneValue where
  /-- The value of a WRITE or a SAFE FILL. -/
  | plain (v : Word)
  /-- The bits of a WRITE MASKED. -/
  | masked (mask value : Word)
deriving DecidableEq, Repr

/-- The masked combination (R46). -/
def maskedWord (mask value old : Word) : Word := (value &&& mask) ||| (old &&& ~~~mask)

/-- The new word, from the old one where it is known. -/
def LaneValue.over : LaneValue → Word → Word
  | .plain v, _ => v
  | .masked m v, old => maskedWord m v old

/-- A granted access of a writing request (R33): `after` is what the request does once its word is written, from the
old and the new word. -/
def State.laneChange (s : State) (a : Nat) (x : LaneValue) (upset : BitVec 22) (after : State → Word → Word → State) :
    State :=
  match s.changeRead a upset, x with
  | (s1, .value o), _ => after (s1.changeWord a (some o) (x.over o)) o (x.over o)
  | (s1, .lost), .plain v => after (s1.changeWord a none v) v v
  | (s1, .lost), .masked _ _ => s1.answerLost a
  | (s1, .failed), _ => s1.loses .lane a

/-- A WRITE goes on after a word, or replies after the last (R44). -/
def State.writeGoesOn (s : State) (count done : Nat) : State :=
  if done < count then s.work (.write done) else s.answer .done (.count count)

/-- A SAFE FILL goes on after a word, or replies after the last (R47). -/
def State.fillGoesOn (s : State) (t : Table) (done : Nat) : State :=
  if done < t.length then s.work (.fill done) else s.answer .done (.filled t.number t.length)

/-- The grant of a writing request's access, and the access. -/
def State.laneWrite (s : State) (g : Grant) (a : Nat) (x : LaneValue) (after : State → Word → Word → State) : State :=
  match s.grantWork g .lane .laneChange with
  | some s1 => (s1.laneChange a x g.upset after).settle
  | none => s

/-- LANE_WORD_CHANGE (R33, R44 to R47). -/
def execLaneWordChange (g : Grant) (s : State) : Host.Outcome State Fault Refusal :=
  .next (match s.serving?, s.laneWord with
    | some { request := .write n _ count values, progress := .serving (.write done), .. }, some a =>
      match s.writeTable n with
      | .error _ => if s.atWork .lane then (s.stopWriting done).settle else s
      | .ok _ => s.laneWrite g a (.plain (values.getD done 0)) fun s1 _ _ => s1.writeGoesOn count (done + 1)
    | some { request := .writeMasked _ _ mask value, progress := .serving .masked, .. }, some a =>
      if s.looksLost .lane then ((s.setLoss .lane .idle).answerLost a).settle
      else s.laneWrite g a (.masked mask value) fun s1 o n => s1.answer .done (.masked o n)
    | some { request := .safeFill n, progress := .serving (.fill done), .. }, some a =>
      match s.writeTable n with
      | .error _ => if s.atWork .lane then (s.stopWriting done).settle else s
      | .ok t => s.laneWrite g a (.plain t.safe) fun s1 _ _ => s1.fillGoesOn t (done + 1)
    | _, _ => s)

end Sys2Proof.Machine
end

