-- ==== Sys2Proof/Machine/Requests.lean ====
section
/-! DEFINITION. The requests that inspect and configure the part, that start it, and that start its passes: each is
answered or taken in the event in which it enters service (R178). -/

namespace Sys2Proof.Machine
open Sys2Proof

/-- UNKNOWN_REQUEST (R177). -/
def execUnknownRequest (s : State) : Host.Outcome State Fault Refusal :=
  .next (match s.entering with
    | some .unknown => (s.answer .unknownRequest .none).settle
    | _ => s)

/-- IDENTIFY (R183). -/
def execIdentify (s : State) : Host.Outcome State Fault Refusal :=
  .next (match s.entering with
    | some .identify =>
      (s.answer .done
        (.identity Config.partName Config.revision s.strap s.ownLane s.installation s.part)).settle
    | _ => s)

/-! ### STATUS and READ STANDING -/

/-- The STATUS items of a port (R184). -/
def PortState.report (p : PortState) : PortReport :=
  { rx := p.rx, outstandingControl := p.outstandingControl, outstandingBulk := p.outstandingBulk
    dropCount := p.dropCount }

/-- The STATUS items of the resync unit (R184). DESIGN CHOICE (log 22): the peers asked (R141, a set) are listed in the
order in which they were asked. -/
def State.resyncReport (s : State) : ResyncReport :=
  match s.transfer, s.receive, s.join with
  | some t, _, _ => .donor t.lane t.phase t.queue.length
  | none, some r, _ => .receiving r.donor r.phase r.marks r.applied
  | none, none, some j => .joining j.phase j.asked
  | none, none, none => .idle

/-- The STATUS items that are absent in INIT (R184). -/
def State.unitsReport (s : State) : UnitsReport :=
  { cycle := s.cycle, checkpointValid := s.checkpointValid, changeCount := s.changeList.length, wide := s.wide
    lostCount := s.lostList.length, close := s.close.map (·.cycle), rollback := s.rollback.map fun _ => s.cycle
    confirmed := s.confirmed, laneHealthy := s.laneHealthy, lastVoted := s.lastVoted, openVote := s.vote.map (·.cycle)
    scrubCursor := s.scrubCursor, scrubPasses := s.scrubPasses, scrubLag := s.scrubLag
    verifyAt := s.verify.bind VerifyPass.interrupted, autoCount := s.autoCount, kept := s.kept
    resync := s.resyncReport }

/-- The reply fields of STATUS (R184). -/
def State.statusReport (s : State) : StatusReport :=
  { part := s.part, lane := s.ownLane, installation := s.installation
    clearNext := if s.part = .init then some s.clearNext else none
    units := if s.part = .init then none else some s.unitsReport
    x1 := s.x1.report, x2 := s.x2.report, requests := s.requests.length, notices := s.notices.length
    noticeDrops := s.noticeDrops, replyDrops := s.replyDrops, timings := s.timings }

/-- STATUS (R184). -/
def execStatus (s : State) : Host.Outcome State Fault Refusal :=
  .next (match s.entering with
    | some .status => (s.answer .done (.status s.statusReport)).settle
    | _ => s)

/-- READ STANDING is answered (R185). DEDUCED (log 22): of the two peer slots, that of the peer of X1 comes first. -/
def State.takeReadStanding (s : State) : State :=
  if s.part = .init then s.answer .wrongState .none
  else
    s.answer .done (.standing s.standings s.part s.lastVoted s.confirmed (s.slotX1.map (·.cycle))
      (s.slotX2.map (·.cycle)) (s.vote.map (·.cycle)))

/-- READ_STANDING (R185). -/
def execReadStanding (s : State) : Host.Outcome State Fault Refusal :=
  .next (match s.entering with
    | some .readStanding => s.takeReadStanding.settle
    | _ => s)

/-! ### Configuration -/

/-- SET INSTALLATION is taken (R186). -/
def State.takeInstallation (s : State) (code : Code) : State :=
  if s.part ≠ .config then s.answer .wrongState .none
  else ({ s with installation := code }.drainBoth).answer .done (.code s.installation)

/-- SET_INSTALLATION (R186). -/
def execSetInstallation (s : State) : Host.Outcome State Fault Refusal :=
  .next (match s.entering with
    | some (.setInstallation code) => (s.takeInstallation code).settle
    | _ => s)

/-- A value clamped to a range. -/
def clamp (low high n : Nat) : Nat := max low (min high n)

/-- The nearest permitted prescale; of two equally far, the larger (R187). -/
def nearestPrescale (n : Nat) : Nat := if n ≤ 2 then 1 else if n ≤ 9 then 4 else if n ≤ 39 then 16 else 64

/-- The timings with the fields present, clamped (R187). -/
def Timings.update (t : Timings) (f : TimingFields) : Timings :=
  { voteWindow := (f.voteWindow.map (clamp 20 10000)).getD t.voteWindow
    joinWait := (f.joinWait.map (clamp 50 5000)).getD t.joinWait
    stallTime := (f.stallTime.map (clamp 50 5000)).getD t.stallTime
    prescale := (f.prescale.map nearestPrescale).getD t.prescale
    period := (f.period.map (clamp 0 255)).getD t.period
    autoVerify := (f.autoVerify.map (clamp 0 255)).getD t.autoVerify }

/-- SET TIMING is taken (R187): the pace counter restarts (R85), and a present interval clears the auto-verify
count. -/
def State.takeTiming (s : State) (f : TimingFields) : State :=
  if s.part ≠ .config then s.answer .wrongState .none
  else
    let t := s.timings.update f
    { s with timings := t, pace := some t.tickInterval
             autoCount := if f.autoVerify.isSome then 0 else s.autoCount }.answer .done (.timings t)

/-- SET_TIMING (R187). -/
def execSetTiming (s : State) : Host.Outcome State Fault Refusal :=
  .next (match s.entering with
    | some (.setTiming f) => (s.takeTiming f).settle
    | _ => s)

/-- The merge rule of a kind may be this number (R13, R17). -/
def mergeAllowed (kind : TableKind) (merge : Nat) : Bool := if kind = .localKind then merge ≤ 15 else merge = 12

/-- A new record, at the total length (R12, R13, R20). -/
def State.newTable (s : State) (number : Nat) (kind : TableKind) (length : Nat) (safe : Word) (merge : Nat) : Table :=
  { number, kind, length, base := s.totalLength, safe, merge := BitVec.ofNat 4 merge, working := none
    checkpoint := none, unsettled := false }

/-- DEFINE TABLE is checked and taken (R13, R14). -/
def State.takeDefine (s : State) (number : Nat) (kind : TableKind) (length : Nat) (safe : Word) (merge : Nat) : State :=
  if s.part ≠ .config then s.answer .wrongState .none
  else if 31 < number then s.answer .range .none
  else if (s.table? number).isSome then s.answer (.refused .inUse) .none
  else if length = 0 || Config.maxTableLength < length then s.answer .range .none
  else if !mergeAllowed kind merge then s.answer (.refused .merge) .none
  else if Config.workingWords < s.totalLength + length then s.answer (.refused .noSpace) .none
  else
    { s with tables := s.tables ++ [s.newTable number kind length safe merge], checkpointValid := false }.answer .done
      (.defined s.totalLength (Config.workingWords - (s.totalLength + length)))

/-- DEFINE_TABLE (R13). -/
def execDefineTable (s : State) : Host.Outcome State Fault Refusal :=
  .next (match s.entering with
    | some (.defineTable number kind length safe merge) => (s.takeDefine number kind length safe merge).settle
    | _ => s)

/-- CLEAR DIRECTORY is taken (R15). -/
def State.takeClear (s : State) : State :=
  if s.part ≠ .config then s.answer .wrongState .none
  else { s with tables := [], checkpointValid := false }.answer .done (.count s.tables.length)

/-- CLEAR_DIRECTORY (R15). -/
def execClearDirectory (s : State) : Host.Outcome State Fault Refusal :=
  .next (match s.entering with
    | some .clearDirectory => s.takeClear.settle
    | _ => s)

/-! ### The fault unit -/

/-- Counters with those of a clear set at 0 (R172). -/
def clearCounters : List Nat → List Bool → List Nat
  | n :: ns, f :: fs => (if f then 0 else n) :: clearCounters ns fs
  | ns, [] => ns
  | [], _ => []

/-- FAULT REPORT is taken (R172). DESIGN CHOICE (log 42): its clearing stands even where LANE RESET drops the reply
before it is sent. -/
def State.takeFaultReport (s : State) (clear : List Bool) (clearFirst : Bool) : State :=
  if s.part = .init then s.answer .wrongState .none
  else
    { s with counters := clearCounters s.counters clear, log := [], overrun := 0
             first := if clearFirst then none else s.first }.answer .done
      (.faults s.counters s.first s.log s.overrun)

/-- FAULT_REPORT (R172). -/
def execFaultReport (s : State) : Host.Outcome State Fault Refusal :=
  .next (match s.entering with
    | some (.faultReport clear clearFirst) => (s.takeFaultReport clear clearFirst).settle
    | _ => s)

/-- SET NOTICE MASK is taken (R171). -/
def State.takeMask (s : State) (flags : List Bool) : State :=
  if s.part = .init then s.answer .wrongState .none
  else { s with masks := flags }.answer .done (.flags s.masks)

/-- SET_NOTICE_MASK (R171). -/
def execSetNoticeMask (s : State) : Host.Outcome State Fault Refusal :=
  .next (match s.entering with
    | some (.setNoticeMask flags) => (s.takeMask flags).settle
    | _ => s)

/-! ### Digests and the verify pass -/

/-- The entry of a table in the reply to READ DIGESTS (R31). -/
def Table.digestReport (t : Table) : DigestReport :=
  { table := t.number, working := t.working, checkpoint := t.checkpoint, unsettled := t.unsettled }

/-- READ DIGESTS is answered (R31). -/
def State.takeReadDigests (s : State) (numbers : List Nat) : State :=
  if s.part = .init || s.part = .config || s.establish.isSome || s.tables.any (·.working.isNone) then
    s.answer .wrongState .none
  else if numbers.any fun n => (s.table? n).isNone then s.answer .noTable .none
  else
    let listed := if numbers.isEmpty then s.tables else numbers.filterMap s.table?
    s.answer .done (.digests s.cycle s.checkpointValid (listed.map Table.digestReport))

/-- READ_DIGESTS (R31). -/
def execReadDigests (s : State) : Host.Outcome State Fault Refusal :=
  .next (match s.entering with
    | some (.readDigests numbers) => (s.takeReadDigests numbers).settle
    | _ => s)

/-- VERIFY is checked and taken (R90). -/
def State.takeVerify (s : State) : State :=
  if !(s.part = .active || s.part = .excluded || s.part = .receiving) then s.answer .wrongState .none
  else if s.establish.isSome then s.answer .wrongState .none
  else if s.verify.isSome then s.answer (.refused .running) .none
  else (s.startVerify .request).answer .done (.verifyStarted s.cycle (s.tablesOf TableKind.walked).length)

/-- VERIFY (R90). -/
def execVerify (s : State) : Host.Outcome State Fault Refusal :=
  .next (match s.entering with
    | some .verify => s.takeVerify.settle
    | _ => s)

/-- VERIFY STOP is taken (R98). -/
def State.takeVerifyStop (s : State) : State :=
  if s.part = .init then s.answer .wrongState .none
  else
    match s.verify with
    | none => s.answer (.refused .notRunning) .none
    | some v => (s.abortVerify .stopped).answer .done (.count v.results.length)

/-- VERIFY_STOP (R98). -/
def execVerifyStop (s : State) : Host.Outcome State Fault Refusal :=
  .next (match s.entering with
    | some .verifyStop => s.takeVerifyStop.settle
    | _ => s)

/-- VERIFY_READ (R92, R93): a table that is to end SKIPPED ends without a read, else the granted read is made. -/
def execVerifyRead (g : Grant) (s : State) : Host.Outcome State Fault Refusal :=
  .next (match s.verify with
    | some v =>
      if s.looksLost .verify then s.skipVerifyTable.settle
      else
        match s.verifyWord v, s.grantWork g .verify .verifyRead with
        | some a, some s1 =>
          match s1.readWord a g.upset with
          | (s2, some value) => (s2.verifyTake v value).settle
          | (s2, none) => (s2.loses .verify a).settle
        | _, _ => s
    | none => s)

/-! ### Cycles -/

/-- CLOSE CYCLE is checked and taken (R54). -/
def State.takeClose (s : State) (c : Cycle) : State :=
  if s.part ≠ .active then s.answer .wrongState .none
  else if c ≠ successor s.cycle then s.answer .wrongCycle (.cycle s.cycle)
  else
    match s.vote with
    | some v => s.answer .votePending (.cycle v.cycle)
    | none =>
      if s.lostList ≠ [] then s.answer .lost (.lostList s.lostNames)
      else if s.unsettledTables ≠ [] then s.answer .unsettled (.tables s.unsettledTables)
      else (s.work .close).startClose .lane c

/-- CLOSE_CYCLE (R54). -/
def execCloseCycle (s : State) : Host.Outcome State Fault Refusal :=
  .next (match s.entering with
    | some (.closeCycle c) => (s.takeClose c).settle
    | _ => s)

/-- ROLLBACK is checked and taken (R66). -/
def State.takeRollback (s : State) : State :=
  if s.part ≠ .active then s.answer .wrongState .none
  else if !s.checkpointValid then s.answer .noCheckpoint .none
  else (s.work .rollback).startRollback

/-- ROLLBACK (R66). -/
def execRollback (s : State) : Host.Outcome State Fault Refusal :=
  .next (match s.entering with
    | some .rollback => s.takeRollback.settle
    | _ => s)

/-! ### Starting and joining -/

/-- START COLD is checked and taken (R188). -/
def State.takeStartCold (s : State) : State :=
  if s.part ≠ .config then s.answer .wrongState .none
  else if s.ownLane.isNone then s.answer (.refused .noLane) .none
  else if s.installation = 0 then s.answer (.refused .noInstallation) .none
  else if !s.tables.any (fun t => t.kind.isVital) then s.answer (.refused .noVital) .none
  else ({ s.work .startCold with part := .starting }).startEstablish

/-- START_COLD (R188). -/
def execStartCold (s : State) : Host.Outcome State Fault Refusal :=
  .next (match s.entering with
    | some .startCold => s.takeStartCold.settle
    | _ => s)

/-- The reply to a range that fails checks 5 to 8 of R138. -/
def State.rangeRefusal (s : State) (r : Range) : Option Status :=
  match s.table? r.table with
  | none => some .noTable
  | some t =>
    if t.kind = .static then some (.refused .staticRange)
    else if r.count = 0 then some (.refused .zeroCount)
    else if t.length < r.first + r.count then some .range
    else none

/-- The first range that fails, with its position from 1 (R138). -/
def State.rangesRefusal (s : State) (position : Nat) : List Range → Option (Status × Nat)
  | [] => none
  | r :: rest =>
    match s.rangeRefusal r with
    | some st => some (st, position)
    | none => s.rangesRefusal (position + 1) rest

/-- Two ranges share a word. -/
def Range.overlaps (r q : Range) : Bool :=
  r.table = q.table && r.first < q.first + q.count && q.first < r.first + r.count

/-- The positions of the first overlapping pair (R138): the lowest later member, and with it the lowest earlier. DESIGN
CHOICE (log 22): the reply has the earlier member's position before the later's. -/
def overlapOf (ranges : List Range) : Option (Nat × Nat) :=
  (List.range ranges.length).findSome? fun j =>
    (List.range j).findSome? fun i =>
      match ranges[i]?, ranges[j]? with
      | some r, some q => if r.overlaps q then some (i + 1, j + 1) else none
      | _, _ => none

/-- A JOIN is accepted (R140). Its event has one STANDING CHANGE NOTICE (R119): a join over an empty directory that fails
within it (R27, R144) announces the changes itself. -/
def State.acceptJoin (s : State) (descriptor : List Range) : State :=
  let ranges := s.expandRanges descriptor
  let s1 := (s.answer .done (.ranges ranges.length)).abortVerify .aborted
  let s2 := ({ s1 with part := .joining }.setOwn .joining none .selfReport).sendStandings
  let s3 := s2.setJoin
    { ranges, descriptor, phase := .establishing, asked := [], current := none, last := none, timer := none,
      refusal := none }
  let s4 := s3.startEstablish
  if s4.join.isNone then s4 else announce s.standings (s4, none)

/-- JOIN is checked and taken (R138). -/
def State.takeJoin (s : State) (version : Nat) (ranges : List Range) : State :=
  if !(s.part = .config || s.part = .excluded) || s.establish.isSome then s.answer .wrongState .none
  else if s.ownLane.isNone then s.answer (.refused .noLane) .none
  else if s.installation = 0 then s.answer (.refused .noInstallation) .none
  else if version ≠ 1 then s.answer (.refused .version) .none
  else
    match s.rangesRefusal 1 ranges with
    | some (st, position) => s.answer st (.positions [position])
    | none =>
      match overlapOf ranges with
      | some (i, j) => s.answer (.refused .overlap) (.positions [i, j])
      | none => s.acceptJoin ranges

/-- JOIN (R138). -/
def execJoin (s : State) : Host.Outcome State Fault Refusal :=
  .next (match s.entering with
    | some (.join version ranges) => (s.takeJoin version ranges).settle
    | _ => s)

end Sys2Proof.Machine
end

