-- ==== Sys2Proof/Machine/Peers.lean ====
section
/-! DEFINITION. The taking of control frames by the vote unit and the resync unit (R106, R121, R130, R143 to R147,
R154), and the expiry of their timers (R123, R143, R153, R160). -/

namespace Sys2Proof.Machine
open Sys2Proof

/-- The oldest control frame of a port is taken: its slot is freed and its credit becomes pending (R105, R106). -/
def State.freeControl (s : State) (p : Port) : State :=
  s.setPort p ({ s.port p with control := (s.port p).control.tail }.creditControl 1)

/-- A STALE NOTICE record: the sending peer and the cycle of the notice (R121, R167). -/
def State.recordStale (s : State) (l : Lane) (n : Cycle) : State :=
  s.record { s.bareFault .staleNotice with cycle := n, lane := some (some l) }

/-- Steps 2 to 6 of R121: the notice of lane `y` for the cycle `n` after its standing list has been applied. -/
def placeNotice (c : Caused) (p : Port) (y : Lane) (n : Cycle) (ds : List DigestEntry) : Caused :=
  let s := c.1
  if s.part ≠ .active then c
  else if s.standingOf y = .excluded || s.standingOf y = .halted then c
  else if !later n s.lastVoted then (s.recordStale y n, c.2)
  else
    let s1 := s.setSlot p (some { cycle := n, digests := ds })
    let s2 := match s.slot p with
      | some old => s1.recordStale y old.cycle
      | none => s1
    tryDecide (s2, c.2)

/-- A DIGEST NOTICE is taken (R121). DESIGN CHOICE (log 18): the FAULT NOTICE of a STALE NOTICE is queued before the
STANDING CHANGE NOTICE of the standing list applied in step 1. -/
def State.takeDigest (s : State) (p : Port) (n : Cycle) (l : StandingList) (ds : List DigestEntry) : State :=
  let c := applyList s p l
  closeStandings s.standings (match s.peer p with
    | some y => placeNotice c p y n ds
    | none => c)

/-- DIGEST_NOTICE (R121). -/
def execDigestNotice (p : Port) (s : State) : Host.Outcome State Fault Refusal :=
  .next (match (s.port p).control with
    | .digestNotice n l ds :: _ => ((s.freeControl p).takeDigest p n l ds).settle
    | _ => s)

/-- STANDING_NOTICE (R130). -/
def execStandingNotice (p : Port) (s : State) : Host.Outcome State Fault Refusal :=
  .next (match (s.port p).control with
    | .standingNotice l :: _ => (closeStandings s.standings (applyList (s.freeControl p) p l)).settle
    | _ => s)

/-- VOTE_TIMER_EXPIRY (R123). -/
def execVoteTimerExpiry (s : State) : Host.Outcome State Fault Refusal :=
  .next (match s.vote with
    | some v => if s.part = .active then (closeStandings s.standings (decideVote (s, none) v .timer)).settle else s
    | none => s)

/-- The join wait of the current peer ends: the part picks again (R143). -/
def State.pickAgain (s : State) (j : JoinRecord) (refusal : Option RefuseReason) : State :=
  (s.setJoin { j with current := none, timer := none, refusal := refusal.or j.refusal }).pickDonor refusal

/-- JOIN_WAIT_EXPIRY (R143). -/
def execJoinWaitExpiry (s : State) : Host.Outcome State Fault Refusal :=
  .next (match s.join with
    | some j => if j.phase = .asking && j.timer.isSome then (s.pickAgain j none).settle else s
    | none => s)

/-- A JOIN ASK is answered (R146). -/
def State.takeAsk (s : State) (p : Port) (summary : List SummaryEntry) (statics : List DigestEntry)
    (ranges : List Range) : State :=
  match s.peer p with
  | none => s
  | some l =>
    match s.askRefusal summary statics with
    | some r => s.sendControl p (.joinRefuse r)
    | none => s.grantJoin l p ranges

/-- JOIN_ASK (R146). -/
def execJoinAsk (p : Port) (s : State) : Host.Outcome State Fault Refusal :=
  .next (match (s.port p).control with
    | .joinAsk summary statics ranges :: _ => ((s.freeControl p).takeAsk p summary statics ranges).settle
    | _ => s)

/-- The join record when the peer of a port is the current peer of the asking part (R143). -/
def State.awaiting (s : State) (p : Port) : Option (JoinRecord × Lane) :=
  match s.join, s.peer p with
  | some j, some l => if j.phase = .asking && j.current = some l then some (j, l) else none
  | _, _ => none

/-- The part enters RECEIVING (R155). -/
def State.enterReceiving (s : State) (p : Port) (j : JoinRecord) (l : Lane) (n : Cycle) : State :=
  let r : ReceiveRecord :=
    { donor := l, port := p, ranges := j.ranges, phase := .applying, frame := none, stall := some s.timings.stallTime
      marks := 0, applied := 0, failure := none, fillTable := 0, fillOffset := 0 }
  { s with part := .receiving, join := none, receive := some r }.notify (.resync (some l) n .granted)

/-- A JOIN GRANT is taken (R143), or answered as unwanted (R145). -/
def State.takeGrant (s : State) (p : Port) (n : Cycle) : State :=
  match s.awaiting p with
  | some (j, l) => s.enterReceiving p j l n
  | none => s.sendControl p (.transferAbort (if s.part = .config then .reset else .stall))

/-- JOIN_GRANT (R143). -/
def execJoinGrant (p : Port) (s : State) : Host.Outcome State Fault Refusal :=
  .next (match (s.port p).control with
    | .joinGrant n :: _ => ((s.freeControl p).takeGrant p n).settle
    | _ => s)

/-- A JOIN REFUSE is taken (R143, R145). -/
def State.takeRefuse (s : State) (p : Port) (r : RefuseReason) : State :=
  match s.awaiting p with
  | some (j, _) => s.pickAgain j (some r)
  | none => s

/-- JOIN_REFUSE (R143). -/
def execJoinRefuse (p : Port) (s : State) : Host.Outcome State Fault Refusal :=
  .next (match (s.port p).control with
    | .joinRefuse r :: _ => ((s.freeControl p).takeRefuse p r).settle
    | _ => s)

/-- A TRANSFER ABORT is taken (R145, R154, R161). -/
def State.takeAbort (s : State) (p : Port) (r : AbortReason) : State :=
  if s.transfer.any fun t => t.port = p then s.endServing (.joinerAbort r) none
  else if s.receive.any fun v => v.port = p then s.failResync (.donorAbort r) none
  else s

/-- TRANSFER_ABORT (R154). -/
def execTransferAbort (p : Port) (s : State) : Host.Outcome State Fault Refusal :=
  .next (match (s.port p).control with
    | .transferAbort r :: _ => ((s.freeControl p).takeAbort p r).settle
    | _ => s)

/-- The donor's stall timer expires (R153, R154). DESIGN CHOICE (log 40): TRANSFER ABANDONED, with its FAULT NOTICE, is
recorded before serving ends with its RESYNC NOTICE. -/
def State.abandon (s : State) (t : TransferRecord) : State :=
  let s1 := s.record { s.bareFault .transferAbandoned with lane := some (some t.lane) }
  s1.endServing .abandoned (if t.phase = .awaitingVerdict then none else some .link)

/-- DONOR_STALL_EXPIRY (R153). -/
def execDonorStallExpiry (s : State) : Host.Outcome State Fault Refusal :=
  .next (match s.transfer with
    | some t => if s.transferBlocked t then (s.abandon t).settle else s
    | none => s)

/-- RECEIVE_STALL_EXPIRY (R160). -/
def execReceiveStallExpiry (s : State) : Host.Outcome State Fault Refusal :=
  .next (match s.receive with
    | some r =>
      if r.phase = .applying && r.stall.isSome then (s.failResync .stall (some .stall)).settle else s
    | none => s)

/-! ### The donor's and the receiving part's accesses -/

/-- DONOR_BLOCK_READ (R150). -/
def State.blockRead (s : State) (t : TransferRecord) (b : Block) (a : Nat) (g : Grant) : State :=
  if s.looksLost .donor then (s.endServing .sourceLost (some .sourceLost)).settle
  else
    match s.grantWork g .donor .donorRead with
    | none => s
    | some s1 =>
      match s1.readWord a g.upset with
      | (s2, some v) => (s2.blockTake t b v).settle
      | (s2, none) => (s2.loses .donor a).settle

/-- DONOR_BLOCK_READ (R150). -/
def execDonorBlockRead (g : Grant) (s : State) : Host.Outcome State Fault Refusal :=
  .next (match s.transfer with
    | some t =>
      match t.block with
      | some b =>
        match b.complete, s.blockWord b with
        | false, some a => s.blockRead t b a g
        | _, _ => s
      | none => s
    | none => s)

/-- A CLOSE MARK is taken (R62, R158). -/
def State.takeMark (s : State) (r : ReceiveRecord) (n : Cycle) : State :=
  let s1 := s.setReceive { r with phase := .closing, stall := none }
  if s.lostList ≠ [] || s.unsettledTables ≠ [] then s1.failResync .localFault (some .localFault)
  else s1.startClose .mark n

/-- A bulk frame is taken and checked (R156). -/
def State.takeBulk (s : State) (r : ReceiveRecord) (m : BulkMsg) : State :=
  let r1 := { r with frame := some (m, 0), stall := some s.timings.stallTime }
  let s1 := (s.setPort r.port { s.port r.port with bulk := (s.port r.port).bulk.tail }).setReceive r1
  if s1.frameUsable r.ranges m then
    match m with
    | .closeMark n _ => s1.takeMark r1 n
    | .imageBlock _ _ _ | .update _ _ _ => s1
  else s1.failResync .mismatch (some .mismatch)

/-- BULK_FRAME_TAKE (R156). -/
def execBulkFrameTake (s : State) : Host.Outcome State Fault Refusal :=
  .next (match s.receive with
    | some r =>
      match r.phase, r.frame, (s.port r.port).bulk with
      | .applying, none, m :: _ => (s.takeBulk r m).settle
      | _, _, _ => s
    | none => s)

/-- The value a received word stores (R157): a VITAL word the peer's, a LOCAL word the merge under the own rule. -/
def Table.received (t : Table) (peer loc : Word) : Word :=
  if t.kind = .localKind then mergeWord t.merge peer loc else peer

/-- A granted change of the receiving part (R157, R162): `value` is the new word from the old, `lost` the new word
where the old is unknown. -/
def State.joinerChange (s : State) (a : Nat) (value : Word → Word) (lost : Word) (upset : BitVec 22)
    (after : State → State) : State :=
  match s.changeRead a upset with
  | (s1, .lost) => after (s1.changeWord a none lost)
  | (s1, .value o) => after (s1.changeWord a (some o) (value o))
  | (s1, .failed) => s1.loses .joiner a

/-- RESYNC_WRITE (R157). -/
def execResyncWrite (g : Grant) (s : State) : Host.Outcome State Fault Refusal :=
  .next (match s.receive.bind (fun r => r.frame.bind frameWord), s.grantWork g .joiner .resyncWrite with
    | some (n, o, v), some s1 =>
      match s.table? n with
      | some t => (s1.joinerChange (t.base + o) (t.received v) v g.upset State.wordApplied).settle
      | none => s
    | _, _ => s)

/-- FAILURE_FILL_WRITE (R162). -/
def execFailureFillWrite (g : Grant) (s : State) : Host.Outcome State Fault Refusal :=
  .next (match s.receive, s.grantWork g .joiner .failureFill with
    | some r, some s1 =>
      match s.vitalTables[r.fillTable]? with
      | some t => (s1.joinerChange (t.base + r.fillOffset) (fun _ => t.safe) t.safe g.upset State.fillAdvance).settle
      | none => s
    | _, _ => s)

end Sys2Proof.Machine
end

