-- ==== Sys2Proof/Machine/LanePort.lean ====
section
/-! DEFINITION. The resets (R182, R190), the store clear (R5), the lane port's receiver and transmitter (R176 to R181)
and the HEALTHY pin (R191). -/

namespace Sys2Proof.Machine
open Sys2Proof

/-! ### LANE RESET -/

/-- Steps 2 and 3 of R190: the cycle unit, the passes and the digests; every requester but the scrub unit withdraws. -/
def State.resetUnits (s : State) : State :=
  let busy := s.close.isSome || s.rollback.isSome || s.fullCopy.isSome
  let s1 := ((((s.withdraw .lane).withdraw .cycle).withdraw .joiner).withdraw .donor).withdraw .verify
  { s1 with
    checkpointValid := s.checkpointValid && s.changeList.isEmpty && !s.wide && !busy
    close := none, rollback := none, fullCopy := none, establish := none, verify := none
    changeList := [], wide := false, lostList := []
    tables := s.tables.map fun t => { t with working := none, unsettled := false } }

/-- Step 4 of R190: the resync unit. The TRANSFER ABORTs are queued in step 6. -/
def State.resetResync (s : State) : State :=
  let s1 := match s.receive with
    | some r =>
      let s2 := if r.phase = ReceivePhase.failing then s
        else s.record { s.bareFault .resyncFailed with lane := some (some r.donor), reason := some (.resync .reset) }
      { s2 with receive := none }
    | none => s
  { s1.endServing .donorLeft none with join := none }

/-- Step 5 of R190: the vote unit and the own record. -/
def State.resetVote (s : State) : State :=
  let s1 := { s with vote := none, slotX1 := none, slotX2 := none, confirmed := false, healthyPin := false }
  match s.ownLane with
  | some l =>
    if s.standingOf l = .excluded then s1
    else announce s.standings (s1.setRecord l .excluded none .selfReport, none)
  | none => s1

/-- The TRANSFER ABORTs that a LANE RESET sends (R164). -/
def State.resetAborts (s : State) : List (Port × AbortReason) :=
  (match s.receive with | some r => [(r.port, AbortReason.reset)] | none => [])
    ++ (match s.transfer with | some t => [(t.port, AbortReason.donorLeft)] | none => [])

/-- Step 6 of R190: the ports (R116). -/
def State.resetPorts (s : State) (aborts : List (Port × AbortReason)) : State :=
  let s1 := { s with x1 := { s.x1 with send := [] }, x2 := { s.x2 with send := [] } }
  (aborts.foldl (fun t a => t.sendControl a.1 (.transferAbort a.2)) s1).sendStandings.drainBoth

/-- LANE RESET is taken (R190), dropping this many requests. DESIGN CHOICE (log 42): what a FAULT REPORT has cleared stays
cleared, though its reply is dropped unsent (R172). -/
def State.laneReset (s : State) (tag : Byte) (dropped : Nat) : State :=
  let s1 := { s with requests := [] }.resetUnits
  let s2 := (s1.resetResync.resetVote).resetPorts s.resetAborts
  let reply : Reply :=
    { kind := 0x09, tag, status := .done, fields := .wasReset s.part s2.checkpointValid s2.cycle dropped }
  { s2 with part := .config, notices := [], noticeDrops := s.noticeDrops
            requests := [{ kind := 0x09, tag, request := .laneReset, progress := .ready reply }] }

/-- LANE_RESET (R190): at its arrival outside INIT, or queued in INIT and now in service (R182, logs 15 and 16). -/
def execLaneReset (arrival : Option Byte) (s : State) : Host.Outcome State Fault Refusal :=
  .next (match arrival with
    | some tag => if s.part = .init then s else (s.laneReset tag s.requests.length).settle
    | none =>
      match s.serving? with
      | some { tag, request := .laneReset, progress := .waiting, .. } =>
        if s.part = .init then (s.answer .wrongState .none).settle
        else (s.laneReset tag (s.requests.length - 1)).settle
      | _ => s)

/-! ### Power-on and the store clear -/

/-- POWER_ON_RESET (R182): the strap code is LSEL0 + 2·LSEL1. The SRAM keeps what it holds until the store clear
writes it. -/
def execPowerOnReset (lsel0 lsel1 : Bool) (s : State) : Host.Outcome State Fault Refusal :=
  .next (State.powerOn (BitVec.ofNat 2 ((if lsel0 then 1 else 0) + (if lsel1 then 2 else 0))) s.store s.pending)

/-- The part leaves INIT for CONFIG (R182). -/
def State.enterConfig (s : State) : State :=
  { s with part := .config, clearNext := 0, storeGrant := .free, pace := some s.timings.tickInterval }.drainBoth

/-- STORE_CLEAR_WRITE (R5). -/
def execStoreClearWrite (s : State) : Host.Outcome State Fault Refusal :=
  .next (if s.part = .init && s.storeGrant = .storeClear then
      let s1 := s.writeWord s.clearNext 0
      if s.clearNext + 1 < Config.storeWords then { s1 with clearNext := s.clearNext + 1 } else s1.enterConfig.settle
    else s)

/-! ### The lane receiver -/

/-- LANE FRAME ERROR is recorded (R176). -/
def State.laneFrameError (s : State) (why : FaultReason) : State :=
  s.record { s.bareFault .laneFrameError with reason := some why }

/-- A request is appended to the request queue, or answered QUEUE FULL at once (R177). -/
def State.enqueue (s : State) (kind tag : Byte) (r : Request) : State :=
  if s.requests.length < Config.requestQueueMax then
    { s with requests := s.requests ++ [{ kind, tag, request := r, progress := .waiting }] }
  else s.answerAtOnce kind tag .queueFull

/-- A lane frame arrives whole (R176, R177). -/
def State.laneArrival (s : State) (kind tag : Byte) (body : List Byte) (crc : BitVec 16) : State :=
  if crc ≠ crc16 (laneCovered kind tag body) then s.laneFrameError .crc
  else if kind = 0x09 && s.part ≠ .init then s.laneReset tag s.requests.length
  else if !namesRequest kind then s.enqueue kind tag .unknown
  else
    match parseRequest kind body with
    | none => s.answerAtOnce kind tag .malformed
    | some r => s.enqueue kind tag r

/-- The lane receiver leaves the frame it is inside and hunts (R176). -/
def State.laneReceived (s : State) (deal : State → State) : State :=
  if s.laneInside then (deal { s with laneInside := false }).settle else s

/-- LANE_FRAME_RECEIVED (R176, R177). -/
def execLaneFrameReceived (kind tag : Byte) (body : List Byte) (crc : BitVec 16) (s : State) :
    Host.Outcome State Fault Refusal :=
  .next (if body.length ≤ 1024 then s.laneReceived fun s1 => s1.laneArrival kind tag body crc else s)

/-- LANE_LENGTH_FIELD_BAD (R176). -/
def execLaneLengthFieldBad (length : BitVec 16) (s : State) : Host.Outcome State Fault Refusal :=
  .next (if laneLengthBad length then s.laneReceived fun s1 => s1.laneFrameError .format else s)

/-- LANE_IDLE_GAP (R176). -/
def execLaneIdleGap (s : State) : Host.Outcome State Fault Refusal :=
  .next (s.laneReceived fun s1 => s1.laneFrameError .format)

/-- LANE_START_BYTE (R176). -/
def execLaneStartByte (s : State) : Host.Outcome State Fault Refusal := .next { s with laneInside := true }

/-- LANE_TRANSMIT_END (R179). -/
def execLaneTransmitEnd (s : State) : Host.Outcome State Fault Refusal :=
  .next (if s.laneTx.isSome then { s with laneTx := none }.settle else s)

/-- HEALTHY_WAVE_HALF (R191): while LANE-HEALTHY is asserted the pin changes level. -/
def execHealthyWaveHalf (s : State) : Host.Outcome State Fault Refusal :=
  .next (if s.laneHealthy then { s with healthyPin := !s.healthyPin } else s)

end Sys2Proof.Machine
end

