-- ==== Sys2Proof/Machine/Dispatch.lean ====
section
/-! DEFINITION. The dispatch: each command's meaning, one arm per constructor. -/

namespace Sys2Proof.Machine
open Sys2Proof

def exec (i : Instr) (s : State) : Host.Outcome State Fault Refusal :=
  match i with
  | .powerOnReset lsel0 lsel1 => Sys2Proof.Machine.execPowerOnReset lsel0 lsel1 s
  | .storeClearWrite => Sys2Proof.Machine.execStoreClearWrite s
  | .laneFrameReceived kind tag body crc => Sys2Proof.Machine.execLaneFrameReceived kind tag body crc s
  | .laneLengthFieldBad length => Sys2Proof.Machine.execLaneLengthFieldBad length s
  | .laneIdleGap => Sys2Proof.Machine.execLaneIdleGap s
  | .laneTransmitEnd => Sys2Proof.Machine.execLaneTransmitEnd s
  | .unknownRequest => Sys2Proof.Machine.execUnknownRequest s
  | .identify => Sys2Proof.Machine.execIdentify s
  | .status => Sys2Proof.Machine.execStatus s
  | .readStanding => Sys2Proof.Machine.execReadStanding s
  | .setInstallation => Sys2Proof.Machine.execSetInstallation s
  | .setTiming => Sys2Proof.Machine.execSetTiming s
  | .defineTable => Sys2Proof.Machine.execDefineTable s
  | .clearDirectory => Sys2Proof.Machine.execClearDirectory s
  | .startCold => Sys2Proof.Machine.execStartCold s
  | .join => Sys2Proof.Machine.execJoin s
  | .laneReset arrival => Sys2Proof.Machine.execLaneReset arrival s
  | .read => Sys2Proof.Machine.execRead s
  | .write => Sys2Proof.Machine.execWrite s
  | .writeMasked => Sys2Proof.Machine.execWriteMasked s
  | .safeFill => Sys2Proof.Machine.execSafeFill s
  | .readDigests => Sys2Proof.Machine.execReadDigests s
  | .closeCycle => Sys2Proof.Machine.execCloseCycle s
  | .rollback => Sys2Proof.Machine.execRollback s
  | .verify => Sys2Proof.Machine.execVerify s
  | .verifyStop => Sys2Proof.Machine.execVerifyStop s
  | .faultReport => Sys2Proof.Machine.execFaultReport s
  | .setNoticeMask => Sys2Proof.Machine.execSetNoticeMask s
  | .laneWordRead g => Sys2Proof.Machine.execLaneWordRead g s
  | .laneWordChange g => Sys2Proof.Machine.execLaneWordChange g s
  | .closeCheckRead g => Sys2Proof.Machine.execCloseCheckRead g s
  | .closeCopyAccess g => Sys2Proof.Machine.execCloseCopyAccess g s
  | .rollbackAccess g => Sys2Proof.Machine.execRollbackAccess g s
  | .establishingRead g => Sys2Proof.Machine.execEstablishingRead g s
  | .establishingSafeWrite g => Sys2Proof.Machine.execEstablishingSafeWrite g s
  | .fullCopyAccess g => Sys2Proof.Machine.execFullCopyAccess g s
  | .paceTick => Sys2Proof.Machine.execPaceTick s
  | .scrubRead g => Sys2Proof.Machine.execScrubRead g s
  | .decisionOtherRead g => Sys2Proof.Machine.execDecisionOtherRead g s
  | .decisionClearWrite g => Sys2Proof.Machine.execDecisionClearWrite g s
  | .decisionRestoreWrite g => Sys2Proof.Machine.execDecisionRestoreWrite g s
  | .decisionSafeChange g => Sys2Proof.Machine.execDecisionSafeChange g s
  | .verifyRead g => Sys2Proof.Machine.execVerifyRead g s
  | .crossFrameArrival port kind cls sender code body crc => Sys2Proof.Machine.execCrossFrameArrival port kind cls sender code body crc s
  | .crossLengthFieldBad port length => Sys2Proof.Machine.execCrossLengthFieldBad port length s
  | .crossIdleGap port => Sys2Proof.Machine.execCrossIdleGap port s
  | .crossTransmitEnd port => Sys2Proof.Machine.execCrossTransmitEnd port s
  | .digestNotice port => Sys2Proof.Machine.execDigestNotice port s
  | .standingNotice port => Sys2Proof.Machine.execStandingNotice port s
  | .voteTimerExpiry => Sys2Proof.Machine.execVoteTimerExpiry s
  | .joinWaitExpiry => Sys2Proof.Machine.execJoinWaitExpiry s
  | .joinAsk port => Sys2Proof.Machine.execJoinAsk port s
  | .joinGrant port => Sys2Proof.Machine.execJoinGrant port s
  | .joinRefuse port => Sys2Proof.Machine.execJoinRefuse port s
  | .transferAbort port => Sys2Proof.Machine.execTransferAbort port s
  | .donorBlockRead g => Sys2Proof.Machine.execDonorBlockRead g s
  | .donorStallExpiry => Sys2Proof.Machine.execDonorStallExpiry s
  | .bulkFrameTake => Sys2Proof.Machine.execBulkFrameTake s
  | .resyncWrite g => Sys2Proof.Machine.execResyncWrite g s
  | .receiveStallExpiry => Sys2Proof.Machine.execReceiveStallExpiry s
  | .failureFillWrite g => Sys2Proof.Machine.execFailureFillWrite g s
  | .laneStartByte => Sys2Proof.Machine.execLaneStartByte s
  | .crossStartByte port => Sys2Proof.Machine.execCrossStartByte port s
  | .healthyWaveHalf => Sys2Proof.Machine.execHealthyWaveHalf s

end Sys2Proof.Machine
end

