-- ==== Sys2Proof/Safety.lean ====
section
/-! DEFINITION. What the claims speak of: the invariants of the part, and the two groups of fields that shared effects
leave as they were. -/

namespace Sys2Proof.Machine
open Sys2Proof

/-! ### Frames -/

/-- Two states hold the same image: the store, the directory with its digests, the lists, the cycle, and the work of
every pass. Nothing that a fault or a change of standing brings about touches any of these (R83, R134, R154, R166). -/
structure SameImage (s t : State) : Prop where
  strap : t.strap = s.strap
  installation : t.installation = s.installation
  timings : t.timings = s.timings
  store : t.store = s.store
  clearNext : t.clearNext = s.clearNext
  storeGrant : t.storeGrant = s.storeGrant
  tables : t.tables = s.tables
  establish : t.establish = s.establish
  fullCopy : t.fullCopy = s.fullCopy
  cycle : t.cycle = s.cycle
  changeList : t.changeList = s.changeList
  wide : t.wide = s.wide
  lostList : t.lostList = s.lostList
  rollback : t.rollback = s.rollback
  scrubCursor : t.scrubCursor = s.scrubCursor
  scrubPasses : t.scrubPasses = s.scrubPasses
  scrubLag : t.scrubLag = s.scrubLag
  pace : t.pace = s.pace
  verify : t.verify = s.verify
  kept : t.kept = s.kept
  autoCount : t.autoCount = s.autoCount
  laneInside : t.laneInside = s.laneInside
  requests : t.requests = s.requests
  immediate : t.immediate = s.immediate
  replyDrops : t.replyDrops = s.replyDrops
  laneTx : t.laneTx = s.laneTx
  masks : t.masks = s.masks
  pending : t.pending = s.pending

/-- What two states of a port share when its transmitter has at most begun a frame (R110). -/
structure SameReceiver (p q : PortState) : Prop where
  rx : q.rx = p.rx
  inside : q.inside = p.inside
  control : q.control = p.control
  bulk : q.bulk = p.bulk
  dropCount : q.dropCount = p.dropCount

/-! ### Directory and digests -/

/-- A component pair lies between 0 and 65520 (R19). -/
def Pair.reduced (p : Pair) : Prop := p.d1 < Config.digestModulus ∧ p.d2 < Config.digestModulus

/-- The limits of a table record (R11, R13, R17). -/
structure Table.WellFormed (t : Table) : Prop where
  number : t.number ≤ 31
  length : 1 ≤ t.length ∧ t.length ≤ Config.maxTableLength
  merge : t.kind ≠ .localKind → t.merge = 12
  working : ∀ p, t.working = some p → p.reduced
  checkpoint : ∀ p, t.checkpoint = some p → p.reduced

/-- Each table begins where the one defined before it ends (R12). -/
def contiguousFrom (base : Nat) : List Table → Prop
  | [] => True
  | t :: rest => t.base = base ∧ contiguousFrom (base + t.length) rest

/-- The directory keeps its limits (R11 to R13), and every digest and accumulator is reduced (R19). -/
structure DirectoryInv (s : State) : Prop where
  records : ∀ t ∈ s.tables, t.WellFormed
  numbers : (s.tables.map (·.number)).Nodup
  bases : contiguousFrom 0 s.tables
  total : s.totalLength ≤ Config.workingWords
  establish : ∀ e, s.establish = some e → e.sums.reduced
  verify : ∀ v, s.verify = some v → v.sums.reduced

/-! ### The change list and the lost list -/

/-- The change list and the lost list keep their limits and name a word once; WIDE stands only beside a full list; and
every lost word is a table word that a partial close would cover, in a table that is unsettled (R34, R36, R50, R53). -/
structure ListsInv (s : State) : Prop where
  lostMax : s.lostList.length ≤ Config.lostListMax
  lostOnce : s.lostList.Nodup
  changeMax : s.changeList.length ≤ Config.changeListMax
  changeOnce : s.changeList.Nodup
  wideFull : s.wide = true → s.changeList.length = Config.changeListMax
  lostListed : ∀ a ∈ s.lostList, s.listed a = true
  lostNamed : ∀ a ∈ s.lostList, (s.tableAt a).isSome = true
  lostUnsettled : ∀ a ∈ s.lostList, ∀ t, s.tableAt a = some t → t.unsettled = true
  configEmpty : s.part = .init ∨ s.part = .config → s.lostList = []

/-! ### The part state and the records that go with it -/

/-- The records of the units go with the part state: a join record with JOINING, a receive record with RECEIVING, and a
transfer record, a vote record, a held notice and the confirmed flag only with ACTIVE; the own standing mirrors the
state, and an ACTIVE part holds at least two lanes ACTIVE (R117, R118, R119, R134, R137, R141, R147, R155). -/
structure ModesInv (s : State) : Prop where
  join : s.join.isSome = true → s.part = .joining
  receive : s.receive.isSome = true → s.part = .receiving
  transfer : s.transfer.isSome = true → s.part = .active
  vote : s.vote.isSome = true → s.part = .active
  slotX1 : s.slotX1.isSome = true → s.part = .active
  slotX2 : s.slotX2.isSome = true → s.part = .active
  confirmed : s.confirmed = true → s.part = .active
  pin : s.healthyPin = true → s.confirmed = true
  fullCopy : s.fullCopy.isSome = true → s.part = .starting
  own : ∀ l, s.ownLane = some l → s.standingOf l = s.part.standing
  notAlone : s.part = .active → 2 ≤ s.standings.activeCount

/-- A request is in service with this work (R178). -/
def State.isServing (s : State) (w : Work) : Prop := ∃ e, s.serving? = some e ∧ e.progress = .serving w

/-- A close or rollback in flight belongs to what began it: a rollback and a close of origin LANE to their request, in
service in a state where the part takes it or may come to while it runs, and a close of origin MARK to a
resynchronisation in the phase CLOSING (R54, R62, R63, R66, R70, R158, R178). -/
structure FlightInv (s : State) : Prop where
  rollback : s.rollback.isSome = true →
    s.isServing .rollback ∧ s.part ∈ [PartState.active, .excluded, .halted]
  laneClose : ∀ c, s.close = some c → c.origin = .lane →
    s.isServing .close ∧ s.part ∈ [PartState.active, .excluded, .halted]
  markClose : ∀ c, s.close = some c → c.origin = .mark → ∃ r, s.receive = some r ∧ r.phase = .closing

/-! ### The queues -/

/-- A port keeps its slots, its credits and its send queue (R105, R108, R109). -/
structure PortState.WellFormed (p : PortState) (processing : Bool) : Prop where
  control : p.control.length ≤ Config.controlSlots
  bulk : p.bulk.length + (if processing then 1 else 0) ≤ Config.bulkSlots
  pendingControl : p.pendingControl ≤ Config.controlSlots
  pendingBulk : p.pendingBulk ≤ Config.bulkSlots
  outstandingControl : p.outstandingControl ≤ Config.controlSlots
  outstandingBulk : p.outstandingBulk ≤ Config.bulkSlots
  send : p.send.length ≤ Config.controlSendMax
  dropCount : p.dropCount ≤ Config.counterMax

/-- The queues, logs and counters keep their sizes (R84, R105, R108, R109, R151, R168, R169, R178 to R180). -/
structure QueuesInv (s : State) : Prop where
  x1 : s.x1.WellFormed (s.portProcessing .x1)
  x2 : s.x2.WellFormed (s.portProcessing .x2)
  requests : s.requests.length ≤ Config.requestQueueMax
  immediate : s.immediate.length ≤ Config.immediateQueueMax
  notices : s.notices.length ≤ Config.noticeQueueMax
  outbound : ∀ t, s.transfer = some t → t.queue.length ≤ Config.bulkQueueMax
  log : s.log.length ≤ Config.faultLogMax
  overrun : s.overrun ≤ 255
  counters : s.counters.length = 16 ∧ ∀ n ∈ s.counters, n ≤ Config.counterMax
  drops : s.noticeDrops ≤ Config.counterMax ∧ s.replyDrops ≤ Config.counterMax
  scrub : s.scrubCursor < Config.storeWords ∧ s.scrubPasses ≤ Config.counterMax ∧ s.scrubLag ≤ Config.counterMax
  clear : s.clearNext < Config.storeWords

/-! ### The store -/

/-- The position of a requester (R7). -/
def positionOf : Requester → Nat
  | .lane => 1
  | .cycle => 2
  | .joiner => 3
  | .donor => 4
  | .verify => 5
  | .scrub => 6

/-- Whether a requester has an access waiting once those that `g` names have asked: one that looks at a lost word first
asks for none (R7, R41). -/
def State.waitsUnder (s : State) (g : Grant) (r : Requester) : Bool :=
  s.waiting.get r || (g.asks.contains r && (s.nextAccess r).isSome && !s.looksLost r)

/-- The words of a table as the working region holds them. -/
def State.words (s : State) (t : Table) : List Word :=
  (List.range t.length).map fun k => (s.store.get (t.base + k)).value

/-! ### Frames of the cross-links -/

/-- A frame that completes inside the receiver of a port and is good (R103): the CRC, the kind, the class, the body,
the sender and the installation code are right. -/
structure GoodArrival (s : State) (p : Port) (kind cls sender : Byte) (code : Code) (body : List Byte)
    (crc : BitVec 32) (m : CrossMsg) : Prop where
  inside : (s.port p).inside = true
  size : body.length ≤ 1024
  check : crc = crc32 (crossCovered kind cls sender code body)
  parses : parseCross kind body = some m
  ofClass : cls.toNat = m.classCode
  fromPeer : ∃ l, s.peer p = some l ∧ sender.toNat = laneCode (some l)
  ours : code = s.installation

/-- A digest entry fits its bytes. -/
def DigestEntry.Fits (e : DigestEntry) : Prop := e.table < 256 ∧ e.pair.d1 < 65536 ∧ e.pair.d2 < 65536

/-- Active-from goes with ACTIVE (R101). -/
def StandingEntry.Proper (e : StandingEntry) : Prop := e.standing = .active ↔ e.activeFrom.isSome = true

/-- A standing list as R101 has it. -/
def StandingList.Proper (l : StandingList) : Prop := l.a.Proper ∧ l.b.Proper ∧ l.c.Proper

/-- The messages that the fields of R101 and R102 allow. -/
def CrossMsg.WellFormed : CrossMsg → Prop
  | .control (.digestNotice _ l ds) => l.Proper ∧ ds ≠ [] ∧ ds.length ≤ 32 ∧ ∀ e ∈ ds, e.Fits
  | .control (.standingNotice l) => l.Proper
  | .control (.joinAsk sm st rs) =>
    (sm.length ≤ 32 ∧ ∀ e ∈ sm, e.number < 256 ∧ e.length < 65536)
      ∧ (st.length ≤ 32 ∧ ∀ e ∈ st, e.Fits)
      ∧ (rs.length ≤ Config.maxRanges ∧ ∀ r ∈ rs, r.table < 256 ∧ r.first < 65536 ∧ r.count < 65536)
  | .control (.joinGrant _) | .control (.joinRefuse _) | .control (.transferAbort _) => True
  | .bulk (.imageBlock t f vs) => t < 256 ∧ f < 65536 ∧ vs ≠ [] ∧ vs.length ≤ Config.requestWords
  | .bulk (.update t o _) => t < 256 ∧ o < 65536
  | .bulk (.closeMark _ none) => True
  | .bulk (.closeMark _ (some ds)) => ds.length ≤ 32 ∧ ∀ e ∈ ds, e.Fits
  | .credit _ | .creditReset => True

end Sys2Proof.Machine
end

