-- ==== Sys2Proof/Certificates/Slice0/Obligations.lean ====
section
/-! DEFINITION. The statements about the part, each with the rules of the manual it rests on. -/

open Sys2Proof Sys2Proof.Machine

/-! ### The queue of commands, and the end of an event -/

/-- With c at the front of the queue and rest behind it, the step is exec of c on the state whose queue is rest; with
an empty queue the step answers the same state (the model's choice, log 3). (95_what_each_step_holds.md) -/
def Obligations.StepRunsFrontCommand : Prop :=
  (∀ s c rest, s.pending = c :: rest → step s = exec c { s with pending := rest })
    ∧ (∀ s, s.pending = [] → step s = .next s)

/-- For every command c and state s, exec answers a next state, whose queue of waiting commands is that of s: no
command stops the part with a fault or a refusal. (95_what_each_step_holds.md, R8) -/
def Obligations.EveryCommandAnswersAndKeepsQueue : Prop :=
  ∀ (c : Instr) (s : State), ∃ t, exec c s = .next t ∧ t.pending = s.pending

/-- Settling, the end of an event (the model's choice of when an idle transmitter begins, log 14), changes only the
ports, the transfer record, the three lane queues and the lane frame in transmission. At each port the receive state,
the receiver, the held frames and the drop count stay. Of the immediate queue, the request queue and the notice queue
at most the head leaves. A port whose transmitter is busy stays as it is; at an idle one at most one frame begins: a
CREDIT RESET, a CREDIT, which takes one pending credit of its class, the head of the control send queue, which leaves
it and adds one to the outstanding control count, or a bulk frame, which adds one to the outstanding bulk count. A
transfer record stays present or absent; but for the mark that its grant has begun it stays, or its complete block
leaves and is counted, or with no block the head of its queue leaves, an UPDATE being counted, or with no block and an
empty queue a block begins at its cursor. (R110, R149, R179) -/
def Obligations.EventEndBeginsTransmissionsOnly : Prop :=
  ∀ s : State,
    let begins := fun (p x : PortState) => x = p ∨ (p.tx = none ∧ x.tx.isSome = true
      ∧ (x = { p with tx := x.tx }
        ∨ (0 < p.pendingControl ∧ x = { p with tx := x.tx, pendingControl := p.pendingControl - 1 })
        ∨ (0 < p.pendingBulk ∧ x = { p with tx := x.tx, pendingBulk := p.pendingBulk - 1 })
        ∨ (∃ e rest, p.send = e :: rest
          ∧ x = { p with tx := x.tx, send := rest, outstandingControl := p.outstandingControl + 1 })
        ∨ x = { p with tx := x.tx, outstandingBulk := p.outstandingBulk + 1 }))
    let offers := fun (t u : TransferRecord) => (t.grantBegun = true → u.grantBegun = true)
      ∧ (u = { t with grantBegun := u.grantBegun }
        ∨ (∃ b, t.block = some b ∧ b.complete = true ∧ u = { t with
            grantBegun := u.grantBegun, block := none, wordsSent := min 65535 (t.wordsSent + b.values.length) })
        ∨ (∃ m rest, t.block = none ∧ t.queue = m :: rest ∧ u = { t with
            grantBegun := u.grantBegun, queue := rest
            updatesSent := match m with | .update _ _ _ => min 65535 (t.updatesSent + 1) | _ => t.updatesSent })
        ∨ (∃ r, t.block = none ∧ t.queue = [] ∧ t.ranges[t.cursorRange]? = some r ∧ u = { t with
            grantBegun := u.grantBegun, block := some ⟨r.table, r.first + t.cursorOffset, [], false⟩ }))
    ∃ x1 x2 transfer immediate requests notices laneTx,
    s.settle = { s with x1, x2, transfer, immediate, requests, notices, laneTx }
      ∧ SameReceiver s.x1 x1 ∧ SameReceiver s.x2 x2
      ∧ begins s.x1 x1 ∧ begins s.x2 x2
      ∧ (immediate = s.immediate ∨ immediate = s.immediate.tail)
      ∧ (requests = s.requests ∨ requests = s.requests.tail)
      ∧ (notices = s.notices ∨ notices = s.notices.tail)
      ∧ transfer.isSome = s.transfer.isSome
      ∧ (∀ t u, s.transfer = some t → transfer = some u → offers t u)

/-- Where the request queue is a run of requests whose replies are ready, then a request e whose reply is not, then
any others, answering makes the reply of e ready with the kind code and tag of e, and leaves the other requests and
every other field as they were. Where every reply is ready, answering changes nothing. (R178) -/
def Obligations.ReplyGoesToRequestInService : Prop :=
  (∀ (s : State) pre e post st f,
      s.requests = pre ++ e :: post → (∀ x ∈ pre, ∃ r, x.progress = .ready r) → (∀ r, e.progress ≠ .ready r) →
      s.answer st f =
        { s with
          requests :=
            pre ++ { e with progress := .ready { kind := e.kind, tag := e.tag, status := st, fields := f } } :: post })
    ∧ (∀ (s : State) st f, (∀ x ∈ s.requests, ∃ r, x.progress = .ready r) → s.answer st f = s)

/-! ### Power-on and the store clear -/

/-- POWER_ON_RESET with the pins at these levels answers a state in INIT: the strap code LSEL0 + 2 LSEL1, installation
code 0, the default timings, no table, cycle 0, empty lists, checkpoint-valid false, no close, rollback, pass, vote,
join, receive or transfer record, the scrub unit and fault unit at their power-on values with the default masks, both
ports CLOSED and empty, empty lane queues and drop counts 0, the HEALTHY pin low. The words of the store and the queue
of commands are not touched. While the store is granted to the store clear in INIT, STORE_CLEAR_WRITE writes 0 with
fresh check bits at its next address and goes on to the next; nothing else changes, so no fault is recorded. After the
last address the part is in CONFIG with the arbiter free, both ports DRAINING and the pace counter started, and the
transmitters may begin. Outside INIT the command has no effect (the model's choice, log 2). (R182, R71, R84, R89,
R114, R117, R164, R175, R181, R187, R5, R115) -/
def Obligations.PowerOnResetThenStoreClear : Prop :=
  (∀ (lsel0 lsel1 : Bool) (s : State), ∃ t, exec (.powerOnReset lsel0 lsel1) s = .next t
     ∧ t.strap.toNat = lsel0.toNat + 2 * lsel1.toNat
     ∧ t.part = .init ∧ t.installation = 0 ∧ t.timings = ⟨500, 250, 1000, 16, 99, 0⟩
     ∧ t.store = s.store ∧ t.clearNext = 0 ∧ t.storeGrant = .storeClear
     ∧ t.waiting = ⟨false, false, false, false, false, false⟩
     ∧ t.loss = ⟨.idle, .idle, .idle, .idle, .idle, .idle⟩
     ∧ t.tables = [] ∧ t.establish = none ∧ t.fullCopy = none
     ∧ t.cycle = 0 ∧ t.changeList = [] ∧ t.wide = false ∧ t.checkpointValid = false ∧ t.lostList = []
     ∧ t.close = none ∧ t.rollback = none
     ∧ t.scrubCursor = 0 ∧ t.scrubPasses = 0 ∧ t.scrubLag = 0 ∧ t.pace = none
     ∧ t.verify = none ∧ t.kept = [] ∧ t.autoCount = 0
     ∧ t.slotX1 = none ∧ t.slotX2 = none ∧ t.vote = none ∧ t.lastVoted = 0
     ∧ t.confirmed = false ∧ t.healthyPin = false
     ∧ (∀ l, t.standings.get l =
         { standing := if t.ownLane = some l then .excluded else .unknown, activeFrom := none, source := none })
     ∧ t.join = none ∧ t.receive = none ∧ t.transfer = none
     ∧ (∀ p, t.port p = ⟨.closed, false, [], [], 0, 0, 0, 0, [], 0, none⟩)
     ∧ t.laneInside = false ∧ t.requests = [] ∧ t.immediate = [] ∧ t.notices = []
     ∧ t.noticeDrops = 0 ∧ t.replyDrops = 0 ∧ t.laneTx = none
     ∧ t.counters = List.replicate 16 0 ∧ t.log = [] ∧ t.overrun = 0 ∧ t.first = none
     ∧ (∀ k : FaultKind, t.masks[k.number]? =
         some ([FaultKind.wordCorrected, .workingWordRestored, .checkpointWordRestored, .wordCleared, .linkFrameError,
           .staleNotice, .laneFrameError].contains k))
     ∧ t.pending = s.pending)
    ∧ (∀ s : State, s.part = .init → s.storeGrant = .storeClear → s.clearNext + 1 < 65536 →
      exec .storeClearWrite s = .next { s with store := s.store.set s.clearNext ⟨0, 0⟩, clearNext := s.clearNext + 1 })
    ∧ (∀ s : State, s.part = .init → s.storeGrant = .storeClear → s.clearNext = 65535 →
      exec .storeClearWrite s = .next
        ({ s with
          store := s.store.set 65535 ⟨0, 0⟩, clearNext := 0, storeGrant := .free, part := .config
          pace := some (s.timings.prescale * (s.timings.period + 1))
          x1 := s.x1.drain, x2 := s.x2.drain }).settle)
    ∧ (∀ s : State, s.part ≠ .init → exec .storeClearWrite s = .next s)

/-! ### The lane port -/

/-- A busy lane transmitter begins nothing. An idle one begins the head of the immediate queue; with none there, the
reply of the oldest request if it is ready; else the head of the notice queue; and the frame begun leaves its queue.
LANE_TRANSMIT_END leaves the transmitter idle, and the next frame begins with the end of the event (the model's
choice, log 14); on an idle transmitter it has no effect (the model's choice, log 2). LANE_START_BYTE takes the
receiver inside a frame. Inside a frame, a length field below 2 or above 1026 and an idle gap each return it to
hunting and record LANE FRAME ERROR with reason FORMAT, the part's cycle number and no other field, and queue no
reply. While it hunts, both have no effect (the model's choice, log 2). (R179, R178, R176, R166) -/
def Obligations.LanePortSendsInOrderAndHunts : Prop :=
  (∀ s : State, s.laneTx.isSome = true → s.kickLane = s)
    ∧ (∀ (s : State) (r : Reply) (rest : List Reply), s.laneTx = none → s.immediate = r :: rest →
      s.kickLane = { s with immediate := rest, laneTx := some ⟨.reply r, (LaneOut.reply r).bytes⟩ })
    ∧ (∀ (s : State) (e : RequestEntry) (rest : List RequestEntry) (r : Reply), s.laneTx = none → s.immediate = [] → s.requests = e :: rest → e.progress = .ready r →
      s.kickLane = { s with requests := rest, laneTx := some ⟨.reply r, (LaneOut.reply r).bytes⟩ })
    ∧ (∀ (s : State) (n : Notice) (rest : List Notice), s.laneTx = none → s.immediate = [] →
      (∀ (e : RequestEntry) (more : List RequestEntry), s.requests = e :: more → ∀ r, e.progress ≠ .ready r) → s.notices = n :: rest →
      s.kickLane = { s with notices := rest, laneTx := some ⟨.notice n, (LaneOut.notice n).bytes⟩ })
    ∧ (∀ s : State, s.laneTx.isSome = true → exec .laneTransmitEnd s = .next ({ s with laneTx := none }).settle)
    ∧ (∀ s : State, s.laneTx = none → exec .laneTransmitEnd s = .next s)
    ∧ (∀ s : State, exec .laneStartByte s = .next { s with laneInside := true })
    ∧ (∀ s : State, s.laneInside = true →
      exec .laneIdleGap s = .next (({ s with laneInside := false }).logFault
        (⟨.laneFrameError, s.cycle, none, none, none, none, some .format, none⟩ : FaultEntry)).settle)
    ∧ (∀ (s : State) (n : BitVec 16), s.laneInside = true → n.toNat < 2 ∨ 1026 < n.toNat →
      exec (.laneLengthFieldBad n) s = .next (({ s with laneInside := false }).logFault
        (⟨.laneFrameError, s.cycle, none, none, none, none, some .format, none⟩ : FaultEntry)).settle)
    ∧ (∀ s : State, s.laneInside = false →
      exec .laneIdleGap s = .next s ∧ ∀ n, exec (.laneLengthFieldBad n) s = .next s)

/-- A frame that completes inside the receiver returns it to hunting. With a wrong CRC-16 it records LANE FRAME ERROR,
reason CRC. A good LANE RESET outside INIT is taken at once, whatever its body. A kind code that names no request, and
one whose body parses as request r, is appended to the request queue where that holds fewer than 4 requests, and is
else answered QUEUE FULL at once; a named kind whose body cannot be parsed is answered MALFORMED at once. An immediate
reply has the frame's kind code and tag, its status and no fields: with fewer than 4 in the immediate queue it is
appended there; with 4 the frame gets no reply, and the reply drop count goes up by 1, from 65535 no further. (R176,
R177, R179, R192) -/
def Obligations.LaneFrameDealtWithInOrder : Prop :=
  ∀ (s : State) (kind tag : Byte) (body : List Byte) (crc : BitVec 16),
    s.laneInside = true → body.length ≤ 1024 →
    (crc ≠ crc16 (laneCovered kind tag body) →
      exec (.laneFrameReceived kind tag body crc) s = .next (({ s with laneInside := false }).logFault
        (⟨.laneFrameError, s.cycle, none, none, none, none, some .crc, none⟩ : FaultEntry)).settle)
    ∧ (crc = crc16 (laneCovered kind tag body) →
      (kind = 0x09 → s.part ≠ .init →
        exec (.laneFrameReceived kind tag body crc) s = exec (.laneReset (some tag)) { s with laneInside := false })
      ∧ ((kind = 0 ∨ 0x15 < kind.toNat) → s.requests.length < 4 →
        exec (.laneFrameReceived kind tag body crc) s = .next
          ({ s with laneInside := false, requests := s.requests ++ [(⟨kind, tag, .unknown, .waiting⟩ : RequestEntry)] }).settle)
      ∧ (∀ r, (kind = 0x09 → s.part = .init) → kind ≠ 0 → kind.toNat ≤ 0x15 → parseRequest kind body = some r →
        s.requests.length < 4 →
        exec (.laneFrameReceived kind tag body crc) s = .next
          ({ s with laneInside := false, requests := s.requests ++ [(⟨kind, tag, r, .waiting⟩ : RequestEntry)] }).settle)
      ∧ ((kind = 0x09 → s.part = .init) → (kind ≠ 0 ∧ kind.toNat ≤ 0x15 → (parseRequest kind body).isSome = true) →
        4 ≤ s.requests.length →
        exec (.laneFrameReceived kind tag body crc) s = .next
          (({ s with laneInside := false }).answerAtOnce kind tag .queueFull).settle)
      ∧ ((kind = 0x09 → s.part = .init) → kind ≠ 0 → kind.toNat ≤ 0x15 → parseRequest kind body = none →
        exec (.laneFrameReceived kind tag body crc) s = .next
          (({ s with laneInside := false }).answerAtOnce kind tag .malformed).settle))
    ∧ ∀ (u : State) (status : Status),
      (u.immediate.length < 4 → u.answerAtOnce kind tag status =
        { u with immediate := u.immediate ++ [(⟨kind, tag, status, .none⟩ : Reply)] })
      ∧ (4 ≤ u.immediate.length →
        u.answerAtOnce kind tag status = { u with replyDrops := min 65535 (u.replyDrops + 1) })

/-- Taken outside INIT with a tag, LANE RESET brings about a state, before the transmitters begin, in CONFIG whose one
request is the LANE RESET with its reply ready: DONE, the part state before, checkpoint-valid after, the cycle number
and the number of requests dropped. The notice queue, the lists and every record of a close, copy, rollback, pass,
vote, join, resynchronisation or transfer are empty, working pairs are not established, no table is unsettled, every
requester but the scrub unit has withdrawn, the own record is EXCLUDED and the peer records stand. Checkpoint-valid
stays true only with an empty change list, WIDE clear and no close, rollback or copy in flight. Both ports are
DRAINING with their held frames flushed, and each ends its send queue with the STANDING NOTICE of the new table, after
the TRANSFER ABORT of a transfer on it. A resynchronisation that was not already failing records RESYNC FAILED, reason
RESET. The rest stays as R190 lists. In INIT the arrival of LANE RESET is not this event, and the command has no
effect (the model's choice, log 2). A LANE RESET that was queued in INIT (logs 15 and 16) is answered WRONG STATE
where it enters service there; where it enters service outside INIT it is taken as an arrival with its tag that finds
the other requests in the queue. (R190, R72, R116, R164) -/
def Obligations.LaneResetReturnsPartToConfig : Prop :=
  (∀ (s : State) (tag : Byte), s.part ≠ .init → ∃ t : State, exec (.laneReset (some tag)) s = .next t.settle
    ∧ t.part = .config
    ∧ t.requests = [⟨0x09, tag, .laneReset,
        .ready ⟨0x09, tag, .done, .wasReset s.part t.checkpointValid s.cycle s.requests.length⟩⟩]
    ∧ t.checkpointValid = (s.checkpointValid && s.changeList.isEmpty && !s.wide && s.close.isNone
        && s.rollback.isNone && s.fullCopy.isNone)
    ∧ t.notices = [] ∧ t.changeList = [] ∧ t.wide = false ∧ t.lostList = []
    ∧ t.close = none ∧ t.rollback = none ∧ t.fullCopy = none ∧ t.establish = none ∧ t.verify = none
    ∧ t.vote = none ∧ t.slotX1 = none ∧ t.slotX2 = none ∧ t.confirmed = false ∧ t.healthyPin = false
    ∧ t.join = none ∧ t.receive = none ∧ t.transfer = none
    ∧ t.tables = s.tables.map (fun u => { u with working := none, unsettled := false })
    ∧ (∀ r, r ≠ .scrub → t.waiting.get r = false ∧ t.loss.get r = .idle)
    ∧ t.waiting.scrub = s.waiting.scrub ∧ t.loss.scrub = s.loss.scrub
    ∧ (∀ l, t.ownLane = some l → t.standingOf l = .excluded)
    ∧ (∀ l, t.ownLane ≠ some l → t.standings.get l = s.standings.get l)
    ∧ (∀ p, (t.port p).rx = .draining ∧ (t.port p).control = [] ∧ (t.port p).bulk = []
        ∧ (t.port p).pendingControl = 0 ∧ (t.port p).pendingBulk = 0
        ∧ (t.port p).outstandingControl = (s.port p).outstandingControl
        ∧ (t.port p).outstandingBulk = (s.port p).outstandingBulk
        ∧ (t.port p).send =
            (if s.receive.any (·.port = p) then [⟨.transferAbort .reset, false⟩] else [])
            ++ (if s.transfer.any (·.port = p) then [⟨.transferAbort .donorLeft, false⟩] else [])
            ++ [⟨.standingNotice t.standings.list, false⟩])
    ∧ (∀ r, s.receive = some r → r.phase ≠ .failing → (t.log, t.overrun) =
        appendLog s.log s.overrun
          ⟨.resyncFailed, s.cycle, none, none, none, some (some r.donor), some (.resync .reset), none⟩)
    ∧ ((∀ r, s.receive = some r → r.phase = .failing) → t.log = s.log ∧ t.overrun = s.overrun)
    ∧ t.store = s.store ∧ t.strap = s.strap ∧ t.installation = s.installation ∧ t.timings = s.timings
    ∧ t.masks = s.masks ∧ t.scrubCursor = s.scrubCursor ∧ t.scrubPasses = s.scrubPasses ∧ t.scrubLag = s.scrubLag
    ∧ t.pace = s.pace ∧ t.kept = s.kept ∧ t.autoCount = s.autoCount ∧ t.lastVoted = s.lastVoted
    ∧ t.cycle = s.cycle ∧ t.immediate = s.immediate ∧ t.replyDrops = s.replyDrops
    ∧ t.noticeDrops = s.noticeDrops)
    ∧ (∀ (s : State) (tag : Byte), s.part = .init → exec (.laneReset (some tag)) s = .next s)
    ∧ (∀ (s : State) e, s.serving? = some e → e.request = .laneReset → e.progress = .waiting →
      (s.part = .init → exec (.laneReset none) s = .next (s.answer .wrongState .none).settle)
      ∧ (s.part ≠ .init →
        exec (.laneReset none) s = exec (.laneReset (some e.tag)) { s with requests := s.requests.tail }))

/-! ### The cross-links -/

/-- A CLOSED or busy port begins nothing. An idle DRAINING port with no frame in processing begins a CREDIT RESET.
Else, while the port is OPEN or DRAINING, a pending control credit, then a pending bulk credit, then the head of the
control send queue while the control count is below 2, goes out: beginning a CREDIT takes one pending credit,
beginning a control frame takes it from the queue and advances the control count. Else, only while the bulk count is
below 6 and the transfer is on this port, the resync unit is asked for a frame. Every frame begun carries the part's
lane letter and installation code. (R108, R110, R112, R100) -/
def Obligations.CrossTransmitterTakesFirstReadyFrame : Prop :=
  ∀ (s : State) (p : Port),
    let port := s.port p
    let frame := fun (m : CrossMsg) =>
      some (⟨s.ownLane, s.installation, m, crossFrameBytes s.ownLane s.installation m, m == .creditReset⟩ :
        CrossTransmission)
    (port.tx.isSome = true ∨ port.rx = .closed → s.kickPort p = s)
    ∧ (port.tx = none → port.rx = .draining → s.portProcessing p = false →
      s.kickPort p = s.setPort p { port with tx := frame .creditReset })
    ∧ (port.tx = none → port.rx = .opened ∨ (port.rx = .draining ∧ s.portProcessing p = true) →
      (0 < port.pendingControl →
        s.kickPort p =
          s.setPort p { port with pendingControl := port.pendingControl - 1, tx := frame (.credit .control) })
      ∧ (port.pendingControl = 0 → 0 < port.pendingBulk →
        s.kickPort p = s.setPort p { port with pendingBulk := port.pendingBulk - 1, tx := frame (.credit .bulk) })
      ∧ (port.pendingControl = 0 → port.pendingBulk = 0 → port.outstandingControl < 2 →
        ∀ e rest, port.send = e :: rest →
          (s.kickPort p).port p =
            { port with send := rest, outstandingControl := port.outstandingControl + 1, tx := frame (.control e.msg) }
          ∧ (s.kickPort p).transfer =
            (if e.opens then s.transfer.map fun t => { t with grantBegun := true } else s.transfer))
      ∧ (port.pendingControl = 0 → port.pendingBulk = 0 → port.send = [] ∨ 2 ≤ port.outstandingControl →
        (∀ t, s.transfer = some t → t.port = p → port.outstandingBulk < 6 → s.kickPort p = s.offerBulk t)
        ∧ ((∀ t, s.transfer = some t → t.port ≠ p ∨ 6 ≤ port.outstandingBulk) → s.kickPort p = s)))

/-- Before the transfer is opened, and while a block is still being read, nothing is offered. A complete block leaves
as an IMAGE BLOCK whose words are counted; with no block in assembly the head of the outbound bulk queue leaves, an
UPDATE being counted; either advances the bulk count of the port. With neither, in phase SENDING with the cursor at a
range, a new block in assembly begins there and nothing is sent. (R108, R149, R151) -/
def Obligations.DonorOffersBlocksThenQueue : Prop :=
  ∀ (s : State) (t : TransferRecord), s.transfer = some t →
    let port := s.port t.port
    let frame := fun (m : BulkMsg) =>
      some (⟨s.ownLane, s.installation, .bulk m, crossFrameBytes s.ownLane s.installation (.bulk m), false⟩ :
        CrossTransmission)
    (t.opened = false → s.offerBulk t = s)
    ∧ (t.opened = true →
      (∀ b, t.block = some b → b.complete = false → s.offerBulk t = s)
      ∧ (∀ b, t.block = some b → b.complete = true →
        s.offerBulk t =
          (s.setTransfer { t with block := none, wordsSent := min 65535 (t.wordsSent + b.values.length) }).setPort t.port
            { port with outstandingBulk := port.outstandingBulk + 1, tx := frame (.imageBlock b.table b.first b.values) })
      ∧ (∀ n o v rest, t.block = none → t.queue = .update n o v :: rest → t.updatesSent ≤ 65535 →
        s.offerBulk t =
          (s.setTransfer { t with queue := rest, updatesSent := min 65535 (t.updatesSent + 1) }).setPort t.port
            { port with outstandingBulk := port.outstandingBulk + 1, tx := frame (.update n o v) })
      ∧ (∀ n final rest, t.block = none → t.queue = .closeMark n final :: rest →
        s.offerBulk t =
          (s.setTransfer { t with queue := rest }).setPort t.port
            { port with outstandingBulk := port.outstandingBulk + 1, tx := frame (.closeMark n final) })
      ∧ (∀ r, t.block = none → t.queue = [] → t.phase = .sending → t.ranges[t.cursorRange]? = some r →
        s.offerBulk t =
          s.setTransfer { t with block := some ⟨r.table, r.first + t.cursorOffset, [], false⟩ })
      ∧ (t.block = none → t.queue = [] → t.phase ≠ .sending ∨ t.ranges.length ≤ t.cursorRange → s.offerBulk t = s))

/-- CROSS_TRANSMIT_END leaves the transmitter idle. After a CREDIT RESET the port's receive state becomes OPEN (unless
the port has entered DRAINING again since the frame was begun: the model's choice, log 17). After a final CLOSE MARK
of the transfer on this port, in FINAL QUEUED with no final mark queued, the phase becomes AWAITING VERDICT. After any
other frame nothing else changes. The next frame may then begin. On an idle transmitter the command has no effect (the
model's choice, log 2). (R110, R152) -/
def Obligations.CrossTransmissionEnds : Prop :=
  ∀ (s : State) (p : Port),
    ((s.port p).tx = none → exec (.crossTransmitEnd p) s = .next s)
    ∧ ∀ x, (s.port p).tx = some x →
      (x.msg = .creditReset →
        exec (.crossTransmitEnd p) s = .next
          (s.setPort p
            { s.port p with tx := none, rx := if x.reopens then .opened else (s.port p).rx }).settle)
      ∧ ((∀ c, x.msg = .credit c → exec (.crossTransmitEnd p) s = .next (s.setPort p { s.port p with tx := none }).settle)
        ∧ (∀ m, x.msg = .control m →
          exec (.crossTransmitEnd p) s = .next (s.setPort p { s.port p with tx := none }).settle)
        ∧ (∀ m, x.msg = .bulk m → (∀ n ds, m ≠ .closeMark n (some ds)) →
          exec (.crossTransmitEnd p) s = .next (s.setPort p { s.port p with tx := none }).settle))
      ∧ (∀ n ds t, x.msg = .bulk (.closeMark n (some ds)) → s.transfer = some t → t.port = p →
        t.phase = .finalQueued → (∀ k es, BulkMsg.closeMark k (some es) ∉ t.queue) →
        exec (.crossTransmitEnd p) s = .next
          ((s.setPort p { s.port p with tx := none }).setTransfer { t with phase := .awaitingVerdict }).settle)
      ∧ (∀ n ds, x.msg = .bulk (.closeMark n (some ds)) → s.transfer = none →
        exec (.crossTransmitEnd p) s = .next (s.setPort p { s.port p with tx := none }).settle)

/-- CROSS_START_BYTE takes a port's receiver inside a frame. Inside a frame, an idle gap and a length field below 7 or
above 1031 each return the receiver to hunting. A CLOSED port does no more. A DRAINING port records LINK FRAME ERROR
with the expected peer and reason FORMAT. An OPEN port records the same, goes into DRAINING, flushes its held frames
without credit and sets its pending credits to 0, its send queue, counts and frame in transmission standing; and a
resynchronisation received on that port, if not already failing, fails with reason LINK and a TRANSFER ABORT of that
reason. While the receiver hunts, neither has an effect (the model's choice, log 2). (R103, R111, R112, R113) -/
def Obligations.CrossReceiverHandlesBrokenFrames : Prop :=
  (∀ (s : State) p, exec (.crossStartByte p) s = .next (s.setPort p { s.port p with inside := true }))
    ∧ (∀ (s : State) p, (s.port p).inside = false →
      exec (.crossIdleGap p) s = .next s ∧ ∀ n, exec (.crossLengthFieldBad p n) s = .next s)
    ∧ ∀ (s : State) (p : Port) (c : Instr), (s.port p).inside = true →
      (c = .crossIdleGap p ∨ ∃ n, c = .crossLengthFieldBad p n ∧ (n.toNat < 7 ∨ 1031 < n.toNat)) →
      let hunting := s.setPort p { s.port p with inside := false }
      let error : FaultEntry :=
        ⟨.linkFrameError, s.cycle, none, none, none, some (s.peer p), some .format, none⟩
      ((s.port p).rx = .closed → exec c s = .next hunting.settle)
      ∧ ((s.port p).rx = .draining → exec c s = .next (hunting.logFault error).settle)
      ∧ ((s.port p).rx = .opened → (∀ r, s.receive = some r → r.port ≠ p) →
        exec c s = .next
          ((hunting.logFault error).setPort p
            { s.port p with
              inside := false, rx := .draining, control := [], bulk := [], pendingControl := 0, pendingBulk := 0
              tx := (s.port p).tx.map fun x => { x with reopens := false } }).settle)
      ∧ (∀ r, (s.port p).rx = .opened → s.receive = some r → r.port = p →
        exec c s = .next
          (((hunting.logFault error).setPort p
            { s.port p with
              inside := false, rx := .draining, control := [], bulk := [], pendingControl := 0, pendingBulk := 0
              tx := (s.port p).tx.map fun x => { x with reopens := false } }).failResync .link (some .link)).settle)

/-- A frame that completes inside the receiver of a port, with the right CRC-32, a body that parses as message m, the
class of m, the expected peer as sender and the part's installation code, is good. At an OPEN port a control frame is
held behind the others where fewer than 2 are held. A bulk frame is held where the resync unit receives on this port
and fewer than 6 are held or in processing; where nothing receives there it frees its slot at once and a bulk credit
becomes pending, up to 6. At an OPEN and at a DRAINING port CREDIT lowers the count of its class by one, from 0 no
further. CREDIT (control) that leaves the count of a serving port at 0 after the JOIN GRANT has begun opens the
transfer; before that, with a count left above 0, or at the other port of a donor whose transfer is open or has its
grant not begun or a count above 0, it opens none. CREDIT RESET sets both counts to 0, and on the serving port ends
serving with reason LINK and no TRANSFER ABORT. (R103, R105, R106, R107, R111, R112, R148, R154) -/
def Obligations.GoodCrossFramesTakenInOpen : Prop :=
  ∀ (s : State) (p : Port) (kind cls sender : Byte) (code : Code) (body : List Byte) (crc : BitVec 32) (m : CrossMsg),
    GoodArrival s p kind cls sender code body crc m → (s.port p).rx ≠ .closed →
    let c := Instr.crossFrameArrival p kind cls sender code body crc
    let port := { s.port p with inside := false }
    (∀ msg, m = .control msg → port.rx = .opened → port.control.length < 2 →
      exec c s = .next (s.setPort p { port with control := port.control ++ [msg] }).settle)
    ∧ (∀ msg, m = .bulk msg → port.rx = .opened → s.receivesOn p = true →
      port.bulk.length + (if s.portProcessing p then 1 else 0) < 6 →
      exec c s = .next (s.setPort p { port with bulk := port.bulk ++ [msg] }).settle)
    ∧ (∀ msg, m = .bulk msg → port.rx = .opened → s.receivesOn p = false →
      port.bulk.length + (if s.portProcessing p then 1 else 0) < 6 →
      exec c s = .next (s.setPort p { port with pendingBulk := min 6 (port.pendingBulk + 1) }).settle)
    ∧ (m = .credit .bulk →
      exec c s = .next (s.setPort p { port with outstandingBulk := port.outstandingBulk - 1 }).settle)
    ∧ (m = .credit .control →
      let u := s.setPort p { port with outstandingControl := port.outstandingControl - 1 }
      (s.transfer = none → exec c s = .next u.settle)
      ∧ ∀ t, s.transfer = some t →
        (t.port = p → t.grantBegun = true → (s.port p).outstandingControl ≤ 1 →
          exec c s = .next (u.setTransfer { t with opened := true }).settle)
        ∧ (t.port = p → t.grantBegun = false ∨ 1 < (s.port p).outstandingControl → exec c s = .next u.settle)
        ∧ (t.port ≠ p → t.opened = true ∨ t.grantBegun = false ∨ 0 < (s.port t.port).outstandingControl →
          exec c s = .next u.settle))
    ∧ (m = .creditReset → (∀ t, s.transfer = some t → t.port ≠ p) →
      exec c s = .next (s.setPort p { port with outstandingControl := 0, outstandingBulk := 0 }).settle)
    ∧ (∀ t, m = .creditReset → s.transfer = some t → t.port = p → ∃ u : State, exec c s = .next u.settle
      ∧ u.transfer = none ∧ SameImage s u ∧ u.part = s.part ∧ u.standings = s.standings ∧ u.log = s.log
      ∧ (u.port p).outstandingControl = 0 ∧ (u.port p).outstandingBulk = 0
      ∧ (u.port p).send.map (·.msg) = (s.port p).send.map (·.msg)
      ∧ (s.notices.length < 16 →
        u.notices = s.notices ++ [.resync (some t.lane) s.cycle (.servingEnded .link t.wordsSent t.updatesSent)]))

/-- For a frame that completes inside a port's receiver: a CLOSED port ignores it. In DRAINING a good control or bulk
frame is discarded with no credit and no record; a foreign frame of any class is recorded as FOREIGN FRAME and
discarded; a wrong CRC-32 records LINK FRAME ERROR with reason CRC, and a kind, class or body at fault records it with
reason FORMAT. In OPEN a foreign frame with a free slot of its class is recorded and returns its own credit, a foreign
link frame being recorded only. The foreign reason is LANE where the sender is not the expected peer (every sender,
for a part with no lane), else INSTALLATION. In OPEN a wrong CRC-32 (reason CRC), a kind, class or body at fault
(FORMAT) and an overrun (OVERRUN) record LINK FRAME ERROR with the expected peer: the port goes into DRAINING, its
held frames are flushed without credit and its pending credits become 0, its send queue, counts and frame in
transmission standing; a resynchronisation received on that port, if not already failing, fails with LINK and a
TRANSFER ABORT of that reason. An overrun is a control frame that finds 2 held, or a bulk frame that finds 6 held or
in processing, of good and foreign frames alike; a foreign one then records no FOREIGN FRAME. (R103, R104, R105, R111,
R112, R113) -/
def Obligations.OtherCrossFramesDiscarded : Prop :=
  ∀ (s : State) (p : Port) (kind cls sender : Byte) (code : Code) (body : List Byte) (crc : BitVec 32),
    (s.port p).inside = true → body.length ≤ 1024 →
    let c := Instr.crossFrameArrival p kind cls sender code body crc
    let hunting := s.setPort p { s.port p with inside := false }
    let fault := fun (k : FaultKind) (why : FaultReason) =>
      (⟨k, s.cycle, none, none, none, some (s.peer p), some why, none⟩ : FaultEntry)
    let drained := fun (why : FaultReason) =>
      (hunting.logFault (fault .linkFrameError why)).setPort p
        { s.port p with
          inside := false, rx := .draining, control := [], bulk := [], pendingControl := 0, pendingBulk := 0
          tx := (s.port p).tx.map fun x => { x with reopens := false } }
    let linkError := fun (why : FaultReason) =>
      ((∀ r, s.receive = some r → r.port ≠ p) → exec c s = .next (drained why).settle)
      ∧ ∀ r, s.receive = some r → r.port = p →
        exec c s = .next ((drained why).failResync .link (some .link)).settle
    let covered := crossCovered kind cls sender code body
    let foreign : Option FaultReason :=
      if (∀ l, s.peer p = some l → sender.toNat ≠ laneCode (some l)) then some .lane
      else if code ≠ s.installation then some .installation else none
    ((s.port p).rx = .closed → exec c s = .next hunting.settle)
    ∧ ((s.port p).rx = .draining →
      (crc ≠ crc32 covered → exec c s = .next (hunting.logFault (fault .linkFrameError .crc)).settle)
      ∧ (crc = crc32 covered →
        (parseCross kind body = none → exec c s = .next (hunting.logFault (fault .linkFrameError .format)).settle)
        ∧ ∀ m, parseCross kind body = some m →
          (cls.toNat ≠ m.classCode → exec c s = .next (hunting.logFault (fault .linkFrameError .format)).settle)
          ∧ (cls.toNat = m.classCode →
            (∀ why, foreign = some why → exec c s = .next (hunting.logFault (fault .foreignFrame why)).settle)
            ∧ (foreign = none → (∃ msg, m = .control msg) ∨ (∃ msg, m = .bulk msg) →
              exec c s = .next hunting.settle))))
    ∧ ((s.port p).rx = .opened →
      (crc ≠ crc32 covered → linkError .crc)
      ∧ (crc = crc32 covered →
        (parseCross kind body = none → linkError .format)
        ∧ ∀ m, parseCross kind body = some m → cls.toNat ≠ m.classCode → linkError .format))
    ∧ ((s.port p).rx = .opened → crc = crc32 covered → ∀ m, parseCross kind body = some m → cls.toNat = m.classCode →
      (∀ why msg, foreign = some why → m = .control msg → (s.port p).control.length < 2 →
        exec c s = .next ((hunting.logFault (fault .foreignFrame why)).setPort p
          { s.port p with inside := false, pendingControl := min 2 ((s.port p).pendingControl + 1) }).settle)
      ∧ (∀ why msg, foreign = some why → m = .bulk msg →
        (s.port p).bulk.length + (if s.portProcessing p then 1 else 0) < 6 →
        exec c s = .next ((hunting.logFault (fault .foreignFrame why)).setPort p
          { s.port p with inside := false, pendingBulk := min 6 ((s.port p).pendingBulk + 1) }).settle)
      ∧ (∀ why, foreign = some why → m.classCode = 0 →
        exec c s = .next (hunting.logFault (fault .foreignFrame why)).settle)
      ∧ (∀ msg, m = .control msg → 2 ≤ (s.port p).control.length → linkError .overrun)
      ∧ (∀ msg, m = .bulk msg → 6 ≤ (s.port p).bulk.length + (if s.portProcessing p then 1 else 0) →
        linkError .overrun))

/-- For every well-formed message (fields within their widths, lists within their limits, an active-from exactly with
ACTIVE, a block and a notice list that is not empty), the bytes the part sends as its body parse, under its kind code,
as that message. The layout of the bytes that R192 leaves open is the model's (log 22). (R101, R102, R103, R192) -/
def Obligations.CrossMessagesSurviveTransmission : Prop :=
  ∀ m : CrossMsg, m.WellFormed → parseCross (BitVec.ofNat 8 m.kind) m.body = some m

/-! ### Inspection and configuration -/

/-- In every part state, an IDENTIFY that has just entered service is answered DONE with the part name HM-412, the
revision 1, the strap code, the lane letter, the installation code and the part state. The bytes of these fields are
the free bytes of the name and of the revision (the model's choice, log 21), the strap code, the lane letter behind a
presence byte (absent for code 3), the four bytes of the installation code and the code of the part state (the layout
that R192 leaves open is the model's, log 22). Nothing but the request queue changes before the transmitters begin; no
store word is read. (R183, R192) -/
def Obligations.IdentifyRepliesInEveryState : Prop :=
  (∀ s : State, s.entering = some .identify →
    exec .identify s = .next (s.answer .done (.identity "HM-412" 1 s.strap s.ownLane s.installation s.part)).settle)
    ∧ (∀ name revision (strap : BitVec 2) lane (code : Code) part,
      (ReplyFields.identity name revision strap lane code part).bytes =
        Config.partNameBytes name ++ Config.revisionBytes revision ++ [BitVec.ofNat 8 strap.toNat]
          ++ (match lane with | some l => [1#8, BitVec.ofNat 8 (laneCode (some l))] | none => [0#8])
          ++ [code.extractLsb' 24 8, code.extractLsb' 16 8, code.extractLsb' 8 8, code.extractLsb' 0 8]
          ++ [BitVec.ofNat 8 part.code])
    ∧ (∀ s : State, s.ownLane = none ↔ s.strap = 3)

/-- In INIT a READ STANDING that has just entered service is answered WRONG STATE. In every other state it is answered
DONE with the three records of the standing table, the part state, the last voted cycle, the confirmed flag, for each
peer slot the cycle of the notice it holds, if it holds one, and the cycle of the open vote record, if one is open.
(R185) -/
def Obligations.ReadStandingRepliesOutsideInit : Prop :=
  ∀ s : State, s.entering = some .readStanding →
    (s.part = .init → exec .readStanding s = .next (s.answer .wrongState .none).settle)
    ∧ (s.part ≠ .init →
      exec .readStanding s = .next
        (s.answer .done (.standing s.standings s.part s.lastVoted s.confirmed (s.slotX1.map (·.cycle))
          (s.slotX2.map (·.cycle)) (s.vote.map (·.cycle)))).settle)

/-- A STATUS that has just entered service is answered DONE with the part state, lane letter, installation code, both
ports' receive states, counts and drop counts, the queue lengths, the drop counts and the timings in force. In INIT it
carries the next address of the store clear and no item of the units; outside INIT it carries the cycle, scrub,
verify, vote and resync items, and no clear address; the peers asked in JOINING stand in the order asked (the model's
choice, log 22). A frame with an unnamed kind code that enters service is answered UNKNOWN REQUEST with no other
field, in INIT too (the model's reading, log 37). (R184, R177) -/
def Obligations.StatusReportsEveryItem : Prop :=
  (∀ s : State, s.entering = some .status → ∃ r : StatusReport,
      exec .status s = .next (s.answer .done (.status r)).settle
      ∧ r.part = s.part ∧ r.lane = s.ownLane ∧ r.installation = s.installation ∧ r.timings = s.timings
      ∧ r.x1 = ⟨s.x1.rx, s.x1.outstandingControl, s.x1.outstandingBulk, s.x1.dropCount⟩
      ∧ r.x2 = ⟨s.x2.rx, s.x2.outstandingControl, s.x2.outstandingBulk, s.x2.dropCount⟩
      ∧ r.requests = s.requests.length ∧ r.notices = s.notices.length
      ∧ r.noticeDrops = s.noticeDrops ∧ r.replyDrops = s.replyDrops
      ∧ (s.part = .init → r.clearNext = some s.clearNext ∧ r.units = none)
      ∧ (s.part ≠ .init → r.clearNext = none ∧ ∃ u, r.units = some u
        ∧ u.cycle = s.cycle ∧ u.checkpointValid = s.checkpointValid ∧ u.changeCount = s.changeList.length
        ∧ u.wide = s.wide ∧ u.lostCount = s.lostList.length ∧ u.close = s.close.map (·.cycle)
        ∧ u.rollback = s.rollback.map (fun _ => s.cycle) ∧ u.confirmed = s.confirmed
        ∧ u.laneHealthy = (s.part = .active && s.confirmed) ∧ u.lastVoted = s.lastVoted
        ∧ u.openVote = s.vote.map (·.cycle) ∧ u.scrubCursor = s.scrubCursor ∧ u.scrubPasses = s.scrubPasses
        ∧ u.scrubLag = s.scrubLag ∧ u.autoCount = s.autoCount ∧ u.kept = s.kept
        ∧ u.verifyAt = s.verify.bind (fun v => v.walk[v.index]?.map fun n => (n, v.cursor))
        ∧ (∀ t, s.transfer = some t → u.resync = .donor t.lane t.phase t.queue.length)
        ∧ (∀ v, s.transfer = none → s.receive = some v → u.resync = .receiving v.donor v.phase v.marks v.applied)
        ∧ (∀ j, s.transfer = none → s.receive = none → s.join = some j → u.resync = .joining j.phase j.asked)))
    ∧ (∀ s : State, s.entering = some .unknown →
      exec .unknownRequest s = .next (s.answer .unknownRequest .none).settle)

/-- In any state but CONFIG both are answered WRONG STATE. SET INSTALLATION in CONFIG sets the code carried, 0
included, puts both ports into DRAINING and replies DONE with the code held before. SET TIMING in CONFIG leaves the
setting of an absent field; it clamps a present one to its range, and replaces a prescale by the nearest of 1, 4, 16
and 64, the larger of two equally near. The pace counter restarts with the interval prescale times (period + 1), a
present interval field sets the auto-verify count to 0, and the reply DONE carries the six values in force. Nothing
else changes before the transmitters begin. (R186, R116, R187, R85) -/
def Obligations.SettingsTakenInConfigOnly : Prop :=
  (∀ (s : State) (code : Code), s.entering = some (.setInstallation code) →
    (s.part ≠ .config → exec .setInstallation s = .next (s.answer .wrongState .none).settle)
    ∧ (s.part = .config →
      exec .setInstallation s = .next
        (({ s with installation := code, x1 := s.x1.drain, x2 := s.x2.drain }).answer .done
          (.code s.installation)).settle))
    ∧ (∀ p : PortState, p.drain.rx = .draining ∧ p.drain.control = [] ∧ p.drain.bulk = []
      ∧ p.drain.pendingControl = 0 ∧ p.drain.pendingBulk = 0 ∧ p.drain.send = p.send
      ∧ p.drain.outstandingControl = p.outstandingControl ∧ p.drain.outstandingBulk = p.outstandingBulk
      ∧ p.drain.dropCount = p.dropCount ∧ p.drain.inside = p.inside)
    ∧ (∀ (s : State) (f : TimingFields), s.entering = some (.setTiming f) →
    (s.part ≠ .config → exec .setTiming s = .next (s.answer .wrongState .none).settle)
    ∧ (s.part = .config → ∃ t : Timings,
      exec .setTiming s = .next
        (({ s with
          timings := t, pace := some (t.prescale * (t.period + 1))
          autoCount := if f.autoVerify.isSome then 0 else s.autoCount }).answer .done (.timings t)).settle
      ∧ (∀ n, f.voteWindow = some n → t.voteWindow = max 20 (min 10000 n))
      ∧ (f.voteWindow = none → t.voteWindow = s.timings.voteWindow)
      ∧ (∀ n, f.joinWait = some n → t.joinWait = max 50 (min 5000 n))
      ∧ (f.joinWait = none → t.joinWait = s.timings.joinWait)
      ∧ (∀ n, f.stallTime = some n → t.stallTime = max 50 (min 5000 n))
      ∧ (f.stallTime = none → t.stallTime = s.timings.stallTime)
      ∧ (∀ n, f.period = some n → t.period = min 255 n)
      ∧ (f.period = none → t.period = s.timings.period)
      ∧ (∀ n, f.autoVerify = some n → t.autoVerify = min 255 n)
      ∧ (f.autoVerify = none → t.autoVerify = s.timings.autoVerify)
      ∧ (f.prescale = none → t.prescale = s.timings.prescale)
      ∧ (∀ n, f.prescale = some n → t.prescale ∈ [1, 4, 16, 64] ∧ ∀ k ∈ [1, 4, 16, 64],
        ((t.prescale : Int) - n).natAbs ≤ ((k : Int) - n).natAbs
          ∧ (((k : Int) - n).natAbs = ((t.prescale : Int) - n).natAbs → k ≤ t.prescale))))

/-- DEFINE TABLE outside CONFIG: WRONG STATE. In CONFIG the first that holds gives the reply, and nothing else
changes: number above 31, RANGE; number in use, REFUSED (IN USE); length 0 or above 4096, RANGE; a merge rule other
than 12 for STATIC or VITAL or above 15, REFUSED (MERGE); a total above 32768, REFUSED (NO SPACE). Else the record is
appended with base the old total length, both digest pairs absent and the unsettled flag clear, checkpoint-valid goes
false, the store is not written, and the reply DONE carries the base and the free words that remain. CLEAR DIRECTORY
in CONFIG empties the directory, its digest state with it, clears checkpoint-valid, also on an empty directory, writes
no word and replies DONE with the number of records removed; elsewhere WRONG STATE. (R13, R12, R15, R17, R20, R51) -/
def Obligations.DirectoryDefinedAndClearedInConfig : Prop :=
  (∀ (s : State) number kind length safe merge, s.entering = some (.defineTable number kind length safe merge) →
    (s.part ≠ .config → exec .defineTable s = .next (s.answer .wrongState .none).settle)
    ∧ (s.part = .config →
      (31 < number → exec .defineTable s = .next (s.answer .range .none).settle)
      ∧ (number ≤ 31 →
        ((∃ t ∈ s.tables, t.number = number) → exec .defineTable s = .next (s.answer (.refused .inUse) .none).settle)
        ∧ ((∀ t ∈ s.tables, t.number ≠ number) →
          (length = 0 ∨ 4096 < length → exec .defineTable s = .next (s.answer .range .none).settle)
          ∧ (1 ≤ length → length ≤ 4096 →
            ((kind ≠ .localKind ∧ merge ≠ 12) ∨ 15 < merge →
              exec .defineTable s = .next (s.answer (.refused .merge) .none).settle)
            ∧ (kind = .localKind ∨ merge = 12 → merge ≤ 15 →
              (32768 < s.totalLength + length →
                exec .defineTable s = .next (s.answer (.refused .noSpace) .none).settle)
              ∧ (s.totalLength + length ≤ 32768 →
                exec .defineTable s = .next
                  (({ s with
                    tables := s.tables ++ [(⟨number, kind, length, s.totalLength, safe, BitVec.ofNat 4 merge, none,
                      none, false⟩ : Table)]
                    checkpointValid := false }).answer .done
                    (.defined s.totalLength (32768 - (s.totalLength + length)))).settle)))))))
    ∧ (∀ s : State, s.entering = some .clearDirectory →
      (s.part ≠ .config → exec .clearDirectory s = .next (s.answer .wrongState .none).settle)
      ∧ (s.part = .config →
        exec .clearDirectory s = .next
          (({ s with tables := [], checkpointValid := false }).answer .done (.count s.tables.length)).settle
        ∧ ({ s with tables := [], checkpointValid := false } : State).totalLength = 0))

/-! ### The fault unit -/

/-- Both are answered WRONG STATE in INIT. Else FAULT REPORT replies with the counters, the first-fault record, the
log and the overrun count as they stood, empties the log, sets the overrun count and each counter named in the clear
set to 0, and empties the first-fault record if clear-first is set. SET NOTICE MASK sets every mask flag and replies
with the flags as they stood before. Nothing else changes before the transmitters begin. (R172, R171) -/
def Obligations.FaultRequestsReportThenClear : Prop :=
  (∀ (s : State) clear clearFirst, s.entering = some (.faultReport clear clearFirst) →
    (s.part = .init → exec .faultReport s = .next (s.answer .wrongState .none).settle)
    ∧ (s.part ≠ .init → ∃ counters : List Nat,
      exec .faultReport s = .next
        (({ s with
          counters, log := [], overrun := 0, first := if clearFirst then none else s.first }).answer .done
          (.faults s.counters s.first s.log s.overrun)).settle
      ∧ counters.length = s.counters.length
      ∧ ∀ k, k < s.counters.length →
        counters[k]? = if clear[k]? = some true then some 0 else s.counters[k]?))
    ∧ (∀ (s : State) flags, s.entering = some (.setNoticeMask flags) →
      (s.part = .init → exec .setNoticeMask s = .next (s.answer .wrongState .none).settle)
      ∧ (s.part ≠ .init →
        exec .setNoticeMask s = .next (({ s with masks := flags }).answer .done (.flags s.masks)).settle))

/-- Before any consequence, recording an entry raises the counter of its kind by one up to 65535, appends the entry to
the log, where a log of 16 loses its oldest entry and the overrun count advances up to 255, and sets the first-fault
record if it was empty. If the kind's mask flag is set, nothing else changes; if it is clear, a FAULT NOTICE with the
entry and the advanced counter is queued. A notice is appended while fewer than 16 are queued; beyond that a FAULT
NOTICE is dropped and counted, and another notice takes the place of the oldest FAULT NOTICE, which is counted, or is
itself dropped and counted where there is none. (R166, R168, R169, R170, R171, R180) -/
def Obligations.RecordingCountsLogsAndNotifies : Prop :=
  (∀ (s : State) (e : FaultEntry),
    let k := e.kind.number
    let n := min 65535 (s.counters.getD k 0 + 1)
    let logged : State :=
      { s with
        counters := s.counters.set k n
        log := (if s.log.length < 16 then s.log else s.log.tail) ++ [e]
        overrun := if s.log.length < 16 then s.overrun else min 255 (s.overrun + 1)
        first := match s.first with | some f => some f | none => some e }
    (s.masks[k]? = some true → s.logFault e = logged)
    ∧ (s.masks[k]? = some false → s.logFault e = logged.notify (.fault e n)))
    ∧ (∀ (s : State) (n : Notice), s.notices.length < 16 → s.notify n = { s with notices := s.notices ++ [n] })
    ∧ (∀ (s : State) e count, 16 ≤ s.notices.length →
      s.notify (.fault e count) = { s with noticeDrops := min 65535 (s.noticeDrops + 1) })
    ∧ (∀ (s : State) (n : Notice) pre e count post, 16 ≤ s.notices.length → (∀ f c, n ≠ .fault f c) →
      s.notices = pre ++ .fault e count :: post → (∀ f c, Notice.fault f c ∉ pre) →
      s.notify n = { s with notices := pre ++ post ++ [n], noticeDrops := min 65535 (s.noticeDrops + 1) })
    ∧ (∀ (s : State) (n : Notice), 16 ≤ s.notices.length → (∀ f c, n ≠ .fault f c) →
      (∀ f c, Notice.fault f c ∉ s.notices) → s.notify n = { s with noticeDrops := min 65535 (s.noticeDrops + 1) })

/-- Whatever the fault and the part state, the recording and its consequence change no word, no table record or
digest, neither list, not the cycle number, no running pass, rollback or copy, no request, no timing, no mask flag and
no scrub value. A kind that is not lane-fatal has no consequence, nor has any kind recorded in INIT, CONFIG, STARTING,
EXCLUDED or HALTED. A lane-fatal fault recorded in ACTIVE leaves the part EXCLUDED, or HALTED where both peer records
are HALTED, with no vote record, empty peer slots, the confirmed flag clear, the HEALTHY pin low and no transfer; the
own record takes the standing of the new part state with source SELF REPORT, the peer records stand, and a close in
flight goes on. Recorded in JOINING it fails the join: the part is EXCLUDED or HALTED without a join record, and
RESYNC FAILED is recorded with the last asked peer and LOCAL FAULT. Recorded in RECEIVING, APPLYING or CLOSING, it
fails the resynchronisation: RESYNC FAILED is recorded with the donor and LOCAL FAULT, a TRANSFER ABORT of that reason
is queued, a close of a mark ends, and the part is in FAILING at the start of the fill, or with no VITAL table out of
RECEIVING; in FAILING it is recorded only. (R83, R129, R137, R144, R154, R161, R162, R166, R173, R174) -/
def Obligations.FaultConsequencesByPartState : Prop :=
  (∀ (s : State) (e : FaultEntry),
    SameImage s (s.record e)
    ∧ (e.kind.class ≠ .laneFatal → s.record e = s.logFault e)
    ∧ (s.part ∈ [PartState.init, .config, .starting, .excluded, .halted] → s.record e = s.logFault e))
    ∧ (∀ (s : State) (e : FaultEntry), s.part = .active → e.kind.class = .laneFatal →
      let t := s.record e
      t.part = (if s.peersHalted then .halted else .excluded)
      ∧ t.vote = none ∧ t.slotX1 = none ∧ t.slotX2 = none ∧ t.confirmed = false ∧ t.healthyPin = false
      ∧ t.transfer = none
      ∧ t.close = s.close ∧ t.checkpointValid = s.checkpointValid
      ∧ (∀ l, s.ownLane = some l →
        t.standings.get l = ⟨if s.peersHalted then .halted else .excluded, none, some .selfReport⟩
        ∧ ∀ m, m ≠ l → t.standings.get m = s.standings.get m))
    ∧ (∀ (s : State) (e : FaultEntry) j, s.part = .joining → s.join = some j → e.kind.class = .laneFatal →
      let t := s.record e
      t.join = none ∧ (t.part = .excluded ∨ t.part = .halted)
      ∧ ⟨.resyncFailed, s.cycle, none, none, none, j.last.map some, some (.resync .localFault), none⟩ ∈ t.log)
    ∧ (∀ (s : State) (e : FaultEntry) v, s.part = .receiving → s.receive = some v → e.kind.class = .laneFatal →
      let t := s.record e
      (v.phase = .failing → t = s.logFault e)
      ∧ (v.phase ≠ .failing →
        t.close = none
        ∧ ⟨.resyncFailed, s.cycle, none, none, none, some (some v.donor), some (.resync .localFault), none⟩ ∈ t.log
        ∧ ((s.port v.port).send = [] → ∃ rest, (t.port v.port).send = ⟨.transferAbort .localFault, false⟩ :: rest)
        ∧ (s.vitalTables ≠ [] → t.part = .receiving ∧ t.standings = s.standings ∧ ∃ f, t.receive = some f
          ∧ f.phase = .failing ∧ f.frame = none ∧ f.failure = some .localFault ∧ f.stall = none
          ∧ f.fillTable = 0 ∧ f.fillOffset = 0)
        ∧ (s.vitalTables = [] → t.receive = none ∧ (t.part = .excluded ∨ t.part = .halted))))

/-! ### The store and the arbiter -/

/-- While the store clear holds the store no access is granted. Else a grant of an access to requester r is made
exactly when r waits for it, or has just asked (when requesters ask is the model's choice, log 10), and no waiting
requester of lower position has an access to make (passing over one that has none is the model's choice, log 33); the
state after it is the state before but for the waiting flags, of which that of r is clear and the others hold what was
waiting. (R7, R9, R8) -/
def Obligations.ArbiterGrantsLowestPosition : Prop :=
  (∀ (s : State) g access, s.storeGrant = .storeClear → s.grant g access = none)
    ∧ (∀ (s : State) g access r t, s.grant g access = some (r, t) →
      s.storeGrant = .free ∧ s.waitsUnder g r = true ∧ s.nextAccess r = some access
      ∧ (∀ q : Requester, positionOf q < positionOf r → s.waitsUnder g q = true → s.nextAccess q = none)
      ∧ t = { s with waiting := t.waiting } ∧ t.waiting.get r = false
      ∧ ∀ q, q ≠ r → t.waiting.get q = s.waitsUnder g q)
    ∧ (∀ (s : State) g access r, s.storeGrant = .free → s.waitsUnder g r = true → s.nextAccess r = some access →
      (∀ q : Requester, positionOf q < positionOf r → s.waitsUnder g q = true → s.nextAccess q = none) →
      ∃ t, s.grant g access = some (r, t))

/-- With none of the 22 bits of the word turned, the read gives the value and nothing else changes. With one turned it
gives the value, the word reads clean afterwards, and WORD CORRECTED is recorded with its address, table and offset.
With two turned it gives none and the word stays as it is. With three or more it does one of these with the free value
the manual leaves open: a clean or corrected value taken in error is the word's from then on. No other address
changes. A write leaves a word clean and every other address alone. (R1, R2, R3, R4, R6) -/
def Obligations.StoreReadHasThreeResults : Prop :=
  (∀ (s : State) a (upset : BitVec 22), s.store.wf = true →
    let w := s.store.get a
    let flips := w.flips ^^^ upset
    let r := s.readWord a upset
    let clean := fun (v : Word) =>
      r.2 = some v ∧ r.1.store.get a = ⟨v, 0⟩ ∧ { r.1 with store := s.store } = s
    let corrected := fun (v : Word) =>
      r.2 = some v ∧ r.1.store.get a = ⟨v, 0⟩
        ∧ { r.1 with store := s.store } = s.logFault (s.wordFault .wordCorrected a)
    let uncorrectable :=
      r.2 = none ∧ r.1.store.get a = ⟨w.value, flips⟩ ∧ { r.1 with store := s.store } = s
    (bitCount flips = 0 → clean w.value)
    ∧ (bitCount flips = 1 → corrected w.value)
    ∧ (bitCount flips = 2 → uncorrectable)
    ∧ (3 ≤ bitCount flips →
      match Config.multiBitRead w.value flips with
      | .clean v => clean v
      | .corrected v => corrected v
      | .uncorrectable => uncorrectable)
    ∧ (∀ b, b ≠ a → r.1.store.get b = s.store.get b))
    ∧ (∀ (s : State) a v, s.store.wf = true →
      (s.writeWord a v).store.get a = ⟨v, 0⟩ ∧ ∀ b, b ≠ a → (s.writeWord a v).store.get b = s.store.get b)

/-- A change of the table word a at offset k of table t, from old (none where unknown) to new, outside INIT and
CONFIG: the word holds new with fresh check bits, a leaves the lost list; an established working pair takes the
difference, or the table becomes unsettled; a running establishing pass that has passed the word takes the difference
into its sums, or returns to offset 0 of the table with its seed, withdrawing what it has waiting (the model's choice,
log 28), and any other change leaves the pass; a enters the change list unless listed or WIDE, and at 1024 entries
WIDE is set instead; a running verify pass behind whose cursor the word lies takes the difference, or the mark that
skips its table; a transfer in SENDING behind whose cursor it lies appends an UPDATE where the value may differ, or
ends where 64 entries wait. In CONFIG the change is the write, the lost-list removal and checkpoint-valid false. (R32,
R34, R35, R36, R37, R38, R151, R51, R29) -/
def Obligations.ChangePathHasEveryEffect : Prop :=
  ∀ (s : State) (a : Nat) (old : Option Word) (new : Word) (t : Table), s.tableAt a = some t →
    let u := s.changeWord a old new
    let k := a - t.base
    (s.part = .config →
      u = { s with store := s.store.set a ⟨new, 0⟩, lostList := s.lostList.erase a, checkpointValid := false })
    ∧ (s.part ≠ .init → s.part ≠ .config →
      u.store = s.store.set a ⟨new, 0⟩ ∧ u.lostList = s.lostList.erase a
      ∧ (t.working = none → u.tables = s.tables)
      ∧ (∀ p o, t.working = some p → old = some o →
        u.tables = s.tables.map fun x =>
          if x.number = t.number then { x with working := some (p.addDelta k (delta o new)) } else x)
      ∧ (∀ p, t.working = some p → old = none →
        u.tables = s.tables.map fun x => if x.number = t.number then { x with unsettled := true } else x)
      ∧ (∀ e x, t.working = none → s.establish = some e → s.tables[e.index]? = some x → x.number = t.number →
        k < e.offset →
        (∀ o, old = some o → u.establish = some { e with sums := e.sums.addDelta k (delta o new) })
        ∧ (old = none → u.waiting.cycle = false
          ∧ u.establish = some { e with offset := 0, sums := ⟨t.number + 1, t.length⟩, writeDue := false }))
      ∧ (t.working.isSome = true
          ∨ (∀ e x, s.establish = some e → s.tables[e.index]? = some x → x.number ≠ t.number ∨ e.offset ≤ k) →
        u.establish = s.establish ∧ u.waiting.cycle = s.waiting.cycle)
      ∧ (a ∈ s.changeList ∨ s.wide = true → u.changeList = s.changeList ∧ u.wide = s.wide)
      ∧ (a ∉ s.changeList → s.wide = false → s.changeList.length < 1024 →
        u.changeList = s.changeList ++ [a] ∧ u.wide = false)
      ∧ (a ∉ s.changeList → s.wide = false → 1024 ≤ s.changeList.length →
        u.changeList = s.changeList ∧ u.wide = true)
      ∧ (s.verify = none → u.verify = none)
      ∧ (∀ v, s.verify = some v →
        (v.walk[v.index]? = some t.number → k < v.cursor →
          (∀ o, old = some o → u.verify = some { v with sums := v.sums.addDelta k (delta o new) })
          ∧ (old = none → u.verify = some { v with skip := true }))
        ∧ (v.walk[v.index]? ≠ some t.number ∨ v.cursor ≤ k → u.verify = some v))
      ∧ (s.transfer = none → u.transfer = none)
      ∧ (∀ r, s.transfer = some r →
        (r.phase = .sending → r.behind t.number k = true → old ≠ some new →
          (r.queue.length < 64 → u.transfer = some { r with queue := r.queue ++ [.update t.number k new] })
          ∧ (64 ≤ r.queue.length → u.transfer = none))
        ∧ (r.phase ≠ .sending ∨ r.behind t.number k = false ∨ old = some new → u.transfer = some r))
      ∧ u.part = s.part ∧ u.cycle = s.cycle ∧ u.checkpointValid = s.checkpointValid ∧ u.close = s.close
      ∧ u.rollback = s.rollback ∧ u.requests = s.requests ∧ u.standings = s.standings ∧ u.receive = s.receive
      ∧ u.join = s.join ∧ u.vote = s.vote ∧ u.log = s.log)

/-- Replacing word k of a list, the digest of the new list is the digest of the old with the difference of word k
taken in. So, outside INIT and CONFIG, for a table whose working pair is the digest of its words, a change of one of
its words from the value it holds leaves a working pair that is the digest of the words after it. (R19, R21, R22, R35)
-/
def Obligations.DigestFollowsEveryKnownChange : Prop :=
  (∀ (number length : Nat) (words : List Word) (k : Nat) (new : Word) (h : k < words.length),
    digestOf number length (words.set k new) = (digestOf number length words).addDelta k (delta words[k] new))
    ∧ (∀ (s : State) (a : Nat) (new : Word) (t : Table), s.store.wf = true → s.part ≠ .init → s.part ≠ .config →
      s.tableAt a = some t → t.working = some (digestOf t.number t.length (s.words t)) →
      let u := s.changeWord a (some (s.store.get a).value) new
      ∃ x, u.tableAt a = some x ∧ x.number = t.number
        ∧ x.working = some (digestOf x.number x.length (u.words x)))

/-! ### Reading and writing the image -/

/-- A READ entering service is answered WRONG STATE in INIT, then NO TABLE, RANGE for count 0 or above 32, RANGE for a
first offset past the table; else it starts with the actual count clamped to the table. At its granted access a word
that reads gives its value, and the READ goes on, or replies DONE with the table, the first offset, the actual count
and the values in order after the last. An uncorrectable word starts its loss decision. A next word on the lost list
that is not asked for yet ends the READ with LOST and its table and offset. (R40, R41, R10) -/
def Obligations.ReadTakenAndServedWordByWord : Prop :=
  (∀ (s : State) n first count, s.entering = some (.read n first count) →
    (s.part = .init → exec .read s = .next (s.answer .wrongState .none).settle)
    ∧ (s.part ≠ .init →
      (s.table? n = none → exec .read s = .next (s.answer .noTable .none).settle)
      ∧ ∀ t, s.table? n = some t →
        (count = 0 ∨ 32 < count ∨ t.length ≤ first → exec .read s = .next (s.answer .range .none).settle)
        ∧ (1 ≤ count → count ≤ 32 → first < t.length →
          exec .read s = .next (s.work (.read (min count (t.length - first)) [])).settle)))
    ∧ (∀ (s : State) (g : Grant) e n first count actual values t,
      s.serving? = some e → e.request = .read n first count → e.progress = .serving (.read actual values) →
      s.table? n = some t →
      let a := t.base + first + values.length
      (s.looksLost .lane = true →
        exec (.laneWordRead g) s = .next ((s.setLoss .lane .idle).answer .lost
          (match s.wordName a with | some w => .lostWord w.1 w.2 | none => .none)).settle)
      ∧ ∀ s1, s.looksLost .lane = false → s.grantWork g .lane .laneRead = some s1 →
        (∀ s2 v, s1.readWord a g.upset = (s2, some v) → values.length + 1 < actual →
          exec (.laneWordRead g) s = .next (s2.work (.read actual (values ++ [v]))).settle)
        ∧ (∀ s2 v, s1.readWord a g.upset = (s2, some v) → actual ≤ values.length + 1 →
          exec (.laneWordRead g) s = .next (s2.answer .done (.values n first actual (values ++ [v]))).settle)
        ∧ (∀ s2, s1.readWord a g.upset = (s2, none) →
          exec (.laneWordRead g) s = .next ((s2.meetLoss .lane a).settleLoss .lane).settle))

/-- All three are answered WRONG STATE in INIT, then NO TABLE, then REFUSED (STATIC) for a STATIC table outside
CONFIG, WRONG STATE for a VITAL table outside CONFIG and ACTIVE, and WRONG STATE for a LOCAL table outside CONFIG,
ACTIVE, EXCLUDED and RECEIVING. Where the table may be written, WRITE is refused with RANGE for count 0, above 32 or
past the end, WRITE MASKED with RANGE past the end and with LOST for a lost word, and SAFE FILL has no check; else the
request starts. A refused request changes nothing but the queue. (R43, R44, R46, R47) -/
def Obligations.WritingRequestsTakenByStateAndKind : Prop :=
  ∀ (s : State) (n : Nat) (c : Instr) (start : Table → Option (Status × ReplyFields)) (w : Work),
    ((∃ first count values, c = .write ∧ s.entering = some (.write n first count values) ∧ w = .write 0
        ∧ start = fun t =>
          if count = 0 ∨ 32 < count ∨ t.length < first + count then some (.range, .none) else none)
      ∨ (∃ offset mask value, c = .writeMasked ∧ s.entering = some (.writeMasked n offset mask value) ∧ w = .masked
        ∧ start = fun t =>
          if t.length ≤ offset then some (.range, .none)
          else if t.base + offset ∈ s.lostList then some (.lost, .lostWord n offset) else none)
      ∨ (c = .safeFill ∧ s.entering = some (.safeFill n) ∧ w = .fill 0 ∧ start = fun _ => none)) →
    (s.part = .init → exec c s = .next (s.answer .wrongState .none).settle)
    ∧ (s.part ≠ .init →
      (s.table? n = none → exec c s = .next (s.answer .noTable .none).settle)
      ∧ ∀ t, s.table? n = some t →
        (t.kind = .static → s.part ≠ .config → exec c s = .next (s.answer (.refused .static) .none).settle)
        ∧ (t.kind = .vital → s.part ∉ [PartState.config, .active] →
          exec c s = .next (s.answer .wrongState .none).settle)
        ∧ (t.kind = .localKind → s.part ∉ [PartState.config, .active, .excluded, .receiving] →
          exec c s = .next (s.answer .wrongState .none).settle)
        ∧ (s.part = .config ∨ (t.kind = .vital ∧ s.part = .active)
            ∨ (t.kind = .localKind ∧ s.part ∈ [PartState.active, .excluded, .receiving]) →
          (∀ st f, start t = some (st, f) → exec c s = .next (s.answer st f).settle)
          ∧ (start t = none → exec c s = .next (s.work w).settle)))

/-- At its granted access a WRITE in service gives the next word of its list to the change path, a SAFE FILL the safe
value of its table, a WRITE MASKED the value's bits where the mask is 1 and the old word's where it is 0. The old
value is the one read; a lost word is written without a read with unknown old value. After the last word the reply
DONE carries the count, the table and its length, or the old and the new word. An uncorrectable read changes nothing
and starts the loss decision. A WRITE MASKED whose word is lost when its turn comes, or is found lost at its access
(the model's reading, log 11), ends with LOST and the word's name. When the table may no longer be written the WRITE
or SAFE FILL, at its next word, ends with WRONG STATE and the number of words written. (R33, R44, R45, R46, R47) -/
def Obligations.WritingRequestsChangeWordByWord : Prop :=
  (∀ (s : State) (g : Grant) e n first count values done t,
    s.serving? = some e → e.request = .write n first count values → e.progress = .serving (.write done) →
    s.table? n = some t →
    let a := t.base + first + done
    let v := values.getD done 0
    let on := fun (u : State) => if done + 1 < count then u.work (.write (done + 1)) else u.answer .done (.count count)
    (∀ st, s.writeTable n = .error st → s.atWork .lane = true →
      exec (.laneWordChange g) s = .next ((s.withdraw .lane).answer .wrongState (.count done)).settle)
    ∧ ∀ s1, s.writeTable n = .ok t → s.grantWork g .lane .laneChange = some s1 →
      (a ∈ s1.lostList → exec (.laneWordChange g) s = .next (on (s1.changeWord a none v)).settle)
      ∧ (∀ s2 o, a ∉ s1.lostList → s1.readWord a g.upset = (s2, some o) →
        exec (.laneWordChange g) s = .next (on (s2.changeWord a (some o) v)).settle)
      ∧ (∀ s2, a ∉ s1.lostList → s1.readWord a g.upset = (s2, none) →
        exec (.laneWordChange g) s = .next ((s2.meetLoss .lane a).settleLoss .lane).settle))
    ∧ (∀ (s : State) (g : Grant) e n done t,
      s.serving? = some e → e.request = .safeFill n → e.progress = .serving (.fill done) → s.table? n = some t →
      let a := t.base + done
      let on := fun (u : State) =>
        if done + 1 < t.length then u.work (.fill (done + 1)) else u.answer .done (.filled t.number t.length)
      (∀ st, s.writeTable n = .error st → s.atWork .lane = true →
        exec (.laneWordChange g) s = .next ((s.withdraw .lane).answer .wrongState (.count done)).settle)
      ∧ ∀ s1, s.writeTable n = .ok t → s.grantWork g .lane .laneChange = some s1 →
        (a ∈ s1.lostList → exec (.laneWordChange g) s = .next (on (s1.changeWord a none t.safe)).settle)
        ∧ (∀ s2 o, a ∉ s1.lostList → s1.readWord a g.upset = (s2, some o) →
          exec (.laneWordChange g) s = .next (on (s2.changeWord a (some o) t.safe)).settle)
      ∧ (∀ s2, a ∉ s1.lostList → s1.readWord a g.upset = (s2, none) →
        exec (.laneWordChange g) s = .next ((s2.meetLoss .lane a).settleLoss .lane).settle))
    ∧ (∀ (s : State) (g : Grant) e n offset mask value t,
      s.serving? = some e → e.request = .writeMasked n offset mask value → e.progress = .serving .masked →
      s.table? n = some t →
      let a := t.base + offset
      let named := match s.wordName a with | some w => ReplyFields.lostWord w.1 w.2 | none => .none
      (s.looksLost .lane = true →
        exec (.laneWordChange g) s = .next ((s.setLoss .lane .idle).answer .lost named).settle)
      ∧ ∀ s1, s.looksLost .lane = false → s.grantWork g .lane .laneChange = some s1 →
        (a ∈ s1.lostList → exec (.laneWordChange g) s = .next (s1.answer .lost named).settle)
        ∧ (∀ s2, a ∉ s1.lostList → s1.readWord a g.upset = (s2, none) →
          exec (.laneWordChange g) s = .next ((s2.meetLoss .lane a).settleLoss .lane).settle)
        ∧ (∀ s2 o, a ∉ s1.lostList → s1.readWord a g.upset = (s2, some o) →
          ∃ new : Word, (∀ i, new.getLsbD i = if mask.getLsbD i then value.getLsbD i else o.getLsbD i)
            ∧ exec (.laneWordChange g) s = .next
              ((s2.changeWord a (some o) new).answer .done (.masked o new)).settle))

/-! ### Cycles -/

/-- A CLOSE CYCLE for c entering service is answered WRONG STATE outside ACTIVE; WRONG CYCLE with the current cycle
number unless c is its successor; VOTE PENDING with the cycle of an open vote record; LOST with the lost words while
any is lost; UNSETTLED with the numbers of the unsettled tables. Else, with a word to cover, it stays in service and
the close record is made: origin LANE, cycle c, FULL where WIDE is set or checkpoint-valid is false and else PARTIAL
over the addresses now in the change list, in its check pass at the first word, with the note of the serving cursor.
With no word to cover the close of that record completes at once. The successor of the largest number is 1. (R54, R55,
R49, R60) -/
def Obligations.CloseCycleChecksThenOpensRecord : Prop :=
  ∀ (s : State) (c : Cycle), s.entering = some (.closeCycle c) →
    let next : Cycle := if s.cycle = 4294967295 then 1 else s.cycle + 1
    (s.part ≠ .active → exec .closeCycle s = .next (s.answer .wrongState .none).settle)
    ∧ (s.part = .active →
      (c ≠ next → exec .closeCycle s = .next (s.answer .wrongCycle (.cycle s.cycle)).settle)
      ∧ (c = next →
        (∀ v, s.vote = some v → exec .closeCycle s = .next (s.answer .votePending (.cycle v.cycle)).settle)
        ∧ (s.vote = none →
          (s.lostList ≠ [] → exec .closeCycle s = .next (s.answer .lost (.lostList s.lostNames)).settle)
          ∧ (s.lostList = [] →
            ((∃ t ∈ s.tables, t.unsettled = true) →
              exec .closeCycle s = .next (s.answer .unsettled (.tables s.unsettledTables)).settle)
            ∧ ((∀ t ∈ s.tables, t.unsettled = false) →
              let note := match s.transfer with
                | none => ServingNote.none
                | some t => if t.ranges.length ≤ t.cursorRange then .atEnd else .notAtEnd
              (s.wide = true ∨ s.checkpointValid = false → 0 < s.totalLength →
                exec .closeCycle s = .next ((s.work .close).setClose
                  ⟨.lane, c, .full, 0, .check, 0, false, false, note, none, false⟩).settle)
              ∧ (s.wide = false → s.checkpointValid = true → s.changeList ≠ [] →
                exec .closeCycle s = .next ((s.work .close).setClose
                  ⟨.lane, c, .partialKind, s.changeList.length, .check, 0, false, false, note, none, false⟩).settle)
              ∧ (∀ kind, (kind = .full ∧ (s.wide = true ∨ s.checkpointValid = false) ∧ s.totalLength = 0
                  ∨ kind = .partialKind ∧ s.wide = false ∧ s.checkpointValid = true ∧ s.changeList = []) →
                exec .closeCycle s = .next ((s.work .close).completeClose
                  ⟨.lane, c, kind, 0, .check, 0, false, false, note, none, false⟩).settle))))))

/-- For a close in its check pass: a granted read that gives a value passes the word; while another covered word
follows, the position moves on; after the last, lost words end the close with LOST and the lost list, else unsettled
tables end it with UNSETTLED and their numbers, else the copy pass begins at the first covered word. An uncorrectable
read starts the loss decision. A covered word that is lost when its turn comes ends the close with LOST without an
access. A close of origin LANE that ends so is answered; one of origin MARK fails the resynchronisation with LOCAL
FAULT. A close that ends so leaves the cycle number, the tables, checkpoint-valid, the change list and WIDE as they
stand. (R58, R10, R62, R64, R161) -/
def Obligations.CheckPassReadsEveryCoveredWord : Prop :=
  ∀ (s : State) (g : Grant) (c : CloseRecord), s.close = some c → c.pass = .check →
    let ends := fun (u : State) st f =>
      (c.origin = .lane → exec (.closeCheckRead g) s = .next
        ((({ u.withdraw .cycle with close := none } : State).answer st f).settle))
      ∧ ∀ v, c.origin = .mark → u.receive = some v → v.phase ≠ .failing → ∃ w : State,
        exec (.closeCheckRead g) s = .next w.settle
        ∧ SameImage u w ∧ w.close = none ∧ w.checkpointValid = u.checkpointValid
        ∧ (u.vitalTables ≠ [] → ∃ f, w.receive = some f ∧ f.phase = .failing ∧ f.failure = some .localFault)
        ∧ (u.vitalTables = [] → w.receive = none ∧ (w.part = .excluded ∨ w.part = .halted))
    (s.looksLost .cycle = true → ends s .lost (.lostList s.lostNames))
    ∧ ∀ s1 a, s.looksLost .cycle = false → s.grantWork g .cycle .closeCheck = some s1 → s1.closeWord c = some a →
      (∀ s2, s1.readWord a g.upset = (s2, none) →
        exec (.closeCheckRead g) s = .next ((s2.meetLoss .cycle a).settleLoss .cycle).settle)
      ∧ ∀ s2 v, s1.readWord a g.upset = (s2, some v) →
        let moved := { c with position := c.position + 1 }
        ((s2.closeWord moved).isSome = true → exec (.closeCheckRead g) s = .next (s2.setClose moved).settle)
        ∧ (s2.closeWord moved = none →
          (s2.lostList ≠ [] → ends s2 .lost (.lostList s2.lostNames))
          ∧ (s2.lostList = [] → s2.unsettledTables ≠ [] → ends s2 .unsettled (.tables s2.unsettledTables))
          ∧ (s2.lostList = [] → s2.unsettledTables = [] →
            exec (.closeCheckRead g) s = .next (s2.setClose { c with position := 0, pass := .copy }).settle))

/-- For a close in its copy pass at the covered word a: a granted read that gives v keeps v; the next granted access
writes v with fresh check bits to a + 32768 and passes the word. While another covered word follows, nothing else
happens; after the last, a close without a copy failure completes; with one, a lane close ends with LOST and the lost
list, and a mark's close fails the resynchronisation with LOCAL FAULT. An uncorrectable read that is in no other
reader's decision is a copy failure, and so, without a read, is a covered word on the lost list when its turn comes:
no word is written, COPY FAILURE is recorded, the cycle number and the checkpoint pairs stand, checkpoint-valid is
false, and a close that goes on is marked failed and spoiled; a copy failure of a mark's close fails the
resynchronisation with LOCAL FAULT, and the close ends within the access. The word read uncorrectable is on the lost
list afterwards where that held fewer than 8, also when a mark's close has ended so (both the model's reading, log
24); past a lost word a lane close goes to the next covered word, or after the last ends with LOST. An uncorrectable
read whose pair is in another reader's decision is no copy failure: the close waits to read the word again, and is
spoiled where that decision has a change to make (the model's reading, log 26). (R1, R56, R57, R59, R60, R62, R64,
R75, R161) -/
def Obligations.CopyPassCopiesEveryCoveredWord : Prop :=
  ∀ (s : State) (g : Grant) (c : CloseRecord) a, s.close = some c → c.pass = .copy → s.closeWord c = some a →
    let failed := fun (w : State) =>
      (s.vitalTables ≠ [] → ∃ f, w.receive = some f ∧ f.phase = .failing ∧ f.failure = some .localFault)
      ∧ (s.vitalTables = [] → w.receive = none ∧ (w.part = .excluded ∨ w.part = .halted))
    let copyFailure := fun (store : Memory) (u : State) =>
      u.store = store ∧ u.cycle = s.cycle ∧ u.checkpointValid = false
      ∧ u.tables.map (·.checkpoint) = s.tables.map (·.checkpoint)
      ∧ s.wordFault .copyFailure a ∈ u.log
      ∧ (∀ d, u.close = some d → d.copyFailed = true ∧ d.spoiled = true ∧ d.cycle = c.cycle)
      ∧ ∀ r, c.origin = .mark → s.part = .receiving → s.receive = some r → r.phase ≠ .failing →
        u.close = none ∧ failed u
    (s.looksLost .cycle = true →
      let moved := { c with copyFailed := true, spoiled := true, position := c.position + 1, value := none }
      ∃ u : State, exec (.closeCopyAccess g) s = .next u.settle
      ∧ copyFailure s.store u ∧ u.lostList = s.lostList
      ∧ (c.origin = .lane → s.receive = none →
        ((s.closeWord moved).isSome = true → u.close = some moved ∧ u.requests = s.requests)
        ∧ (s.closeWord moved = none →
          u.close = none ∧ u.requests = (s.answer .lost (.lostList s.lostNames)).requests)))
    ∧ ∀ s1, s.looksLost .cycle = false → s.grantWork g .cycle .closeCopy = some s1 →
    (∀ s2 v, c.value = none → s1.readWord a g.upset = (s2, some v) →
      exec (.closeCopyAccess g) s = .next (s2.setClose { c with value := some v }).settle)
    ∧ (∀ v, c.value = some v →
      let moved := { c with position := c.position + 1, value := none, wroteCopy := true }
      let u := { s1 with store := s1.store.set (a + 32768) ⟨v, 0⟩, close := some moved }
      ((s.closeWord moved).isSome = true → exec (.closeCopyAccess g) s = .next u.settle)
      ∧ (s.closeWord moved = none → c.copyFailed = false →
        exec (.closeCopyAccess g) s = .next (u.completeClose moved).settle)
      ∧ (s.closeWord moved = none → c.copyFailed = true → c.origin = .lane →
        exec (.closeCopyAccess g) s = .next
          (({ u.withdraw .cycle with close := none } : State).answer .lost (.lostList s.lostNames)).settle)
      ∧ (∀ r, s.closeWord moved = none → c.copyFailed = true → c.origin = .mark → s.receive = some r →
        r.phase ≠ .failing → ∃ w : State, exec (.closeCopyAccess g) s = .next w.settle
        ∧ SameImage u w ∧ w.close = none ∧ w.checkpointValid = u.checkpointValid ∧ failed w))
    ∧ (∀ s2, c.value = none → s1.readWord a g.upset = (s2, none) → s2.decidedByOther .cycle a = false → ∃ u : State,
      exec (.closeCopyAccess g) s = .next u.settle ∧ copyFailure s2.store u
      ∧ (a < 32768 → (s.tableAt a).isSome = true → s.part ∈ [PartState.active, .joining, .receiving, .excluded, .halted] →
        s.lostList.length < 8 → a ∈ u.lostList))
    ∧ (∀ s2, c.value = none → s1.readWord a g.upset = (s2, none) → s2.decidedByOther .cycle a = true →
      let changeDue := ∃ q d b v, q ≠ Requester.cycle ∧ s2.loss.get q = .deciding d
        ∧ (if d.first < 32768 then d.first else d.first - 32768) = a ∧ .safeChange b v ∈ d.todo
      (changeDue → exec (.closeCopyAccess g) s = .next
        (({ s2 with close := some { c with spoiled := true } } : State).setLoss .cycle (.retrying a)).settle)
      ∧ (¬changeDue → exec (.closeCopyAccess g) s = .next (s2.setLoss .cycle (.retrying a)).settle))

/-- At completion every table's checkpoint pair is its working pair, the cycle number is the close's, checkpoint-valid
is true exactly for a close not spoiled, the change list holds the lost words and no other, WIDE is clear, the lost
list, the working pairs, the unsettled flags and every word stand, and no close is in flight, whatever the vote unit,
the resync unit and the verify unit then do with it. A lane close then hands its result on, in this order (the model's
reading, log 30). In ACTIVE a DIGEST NOTICE with the cycle, the standing list and the working pairs of the VITAL
tables is queued on X1 and X2, and a vote record with the same pairs and the vote window is open; if no expected peer
is missing, the vote is decided at once by its table and its outcome applied. Outside ACTIVE neither happens. A
donor's block that is not complete is cut: it is dropped if empty, else complete as it stands, and its waiting read
withdrawn, but an open loss decision of the donor goes on, its accesses with it (the model's reading, log 37); in
SENDING a CLOSE MARK for the cycle joins the outbound queue, final with the STATIC and VITAL checkpoint pairs and the
phase FINAL QUEUED exactly by the note AT END; a queue of 64 ends serving with UPDATE OVERFLOW instead. The reply is
DONE with the cycle, the kind, the words copied and the VITAL pairs. The auto-verify count goes up by one while the
interval is not 0; on reaching it the count is 0 and, in ACTIVE, EXCLUDED or RECEIVING with no pass of either kind, a
verify pass of origin AUTO starts, completing at once with no table to walk, a first table whose first word is lost
ending SKIPPED at once. (R26, R49, R51, R60, R61, R62, R91, R120, R123, R149, R151, R152) -/
def Obligations.CloseCompletionSetsCheckpoint : Prop :=
  (∀ (s : State) (c : CloseRecord),
    let u := s.completeClose c
    u.tables = s.tables.map (fun t => { t with checkpoint := t.working })
    ∧ u.cycle = c.cycle ∧ u.checkpointValid = !c.spoiled ∧ u.changeList = s.lostList ∧ u.wide = false
    ∧ u.lostList = s.lostList ∧ u.store = s.store ∧ u.close = none)
    ∧ (∀ (s : State) (c : CloseRecord), c.origin = .lane →
      let done : State := { s with
        tables := s.tables.map fun t => { t with checkpoint := t.working }
        cycle := c.cycle, checkpointValid := !c.spoiled, changeList := s.lostList, wide := false, close := none }
      let pairs := s.workingPairs fun k => k = .vital
      let notice := ControlMsg.digestNotice c.cycle s.standings.list pairs
      let sent := (done.sendControl .x1 notice).sendControl .x2 notice
      let opened : State := { sent with vote := some ⟨c.cycle, pairs, s.timings.voteWindow⟩ }
      let serving := ∀ t, s.transfer = some t → s.standingOf t.lane ∈ [Standing.unknown, .joining]
      let handsOn := fun (v : State) => s.completeClose c =
        ((v.cutBlock.appendMark c.cycle c.note).answer .done (.closed c.cycle c.kind c.position pairs)).autoVerify
      (s.part ≠ .active → handsOn done)
      ∧ (s.part = .active → ¬(notMissing (s.ballot c.cycle .x1) = true ∧ notMissing (s.ballot c.cycle .x2) = true) →
        (serving → handsOn opened)
        ∧ (¬serving → ∃ v : State, handsOn v ∧ v.vote = opened.vote ∧ v.part = .active ∧ v.transfer = none))
      ∧ (s.part = .active → notMissing (s.ballot c.cycle .x1) = true → notMissing (s.ballot c.cycle .x2) = true →
        let outcome := (voteResult pairs (s.ballot c.cycle .x1) (s.ballot c.cycle .x2)).1
        ∃ v : State, handsOn v ∧ SameImage done v ∧ v.vote = none ∧ v.lastVoted = c.cycle
        ∧ (outcome = .agreed → v.part = .active ∧ v.confirmed = true ∧ v.standings = s.standings
          ∧ (serving → v.x1 = sent.x1 ∧ v.x2 = sent.x2 ∧ v.transfer = s.transfer))
        ∧ (∀ x, outcome = .otherExcluded x →
          2 ≤ (s.standings.set x ⟨.excluded, none, some .vote⟩).activeCount →
          v.part = .active ∧ v.confirmed = true ∧ v.standings = s.standings.set x ⟨.excluded, none, some .vote⟩)
        ∧ (outcome = .selfExcluded → (v.part = .excluded ∨ v.part = .halted) ∧ v.transfer = none)
        ∧ (outcome = .halted → v.part = .halted ∧ v.transfer = none)))
    ∧ (∀ s : State,
      (s.transfer = none → s.cutBlock = s)
      ∧ ∀ t, s.transfer = some t →
        (t.block = none → s.cutBlock = s)
        ∧ ∀ b, t.block = some b →
          (b.complete = true → s.cutBlock = s)
          ∧ (b.complete = false →
            let rest := if b.values = [] then none else some { b with complete := true }
            ((∀ d, s.loss.donor ≠ .deciding d) →
              s.cutBlock = { s.withdraw .donor with transfer := some { t with block := rest } })
            ∧ (∀ d, s.loss.donor = .deciding d → s.cutBlock = { s with transfer := some { t with block := rest } })))
    ∧ (∀ (s : State) n note,
      (s.transfer = none → s.appendMark n note = s)
      ∧ ∀ t, s.transfer = some t →
        (t.phase ≠ .sending → s.appendMark n note = s)
        ∧ (t.phase = .sending → t.queue.length < 64 →
          (note ≠ .atEnd → s.appendMark n note =
            { s with transfer := some { t with queue := t.queue ++ [.closeMark n none] } })
          ∧ (note = .atEnd → s.appendMark n note = { s with transfer := some { t with
              phase := .finalQueued
              queue := t.queue ++ [.closeMark n (some (s.checkpointPairs fun k => k ≠ .localKind))] } }))
        ∧ (t.phase = .sending → 64 ≤ t.queue.length → (s.appendMark n note).transfer = none
          ∧ ((s.port t.port).send = [] →
            ((s.appendMark n note).port t.port).send = [⟨.transferAbort .updateOverflow, false⟩])))
    ∧ (∀ s : State,
      let mayStart := s.verify = none ∧ s.establish = none ∧ s.part ∈ [PartState.active, .excluded, .receiving]
      (s.timings.autoVerify = 0 → s.autoVerify = s)
      ∧ (s.autoCount + 1 < s.timings.autoVerify → s.autoVerify = { s with autoCount := s.autoCount + 1 })
      ∧ (s.timings.autoVerify ≠ 0 → s.timings.autoVerify ≤ s.autoCount + 1 →
        (¬mayStart → s.autoVerify = { s with autoCount := 0 })
        ∧ (mayStart →
          (s.tablesOf (fun k => k ≠ .localKind) = [] → s.autoVerify =
            ({ s with autoCount := 0, kept := [] } : State).notify (.verify .complete .auto s.cycle s.cycle [] none))
          ∧ ∀ t rest x, s.tablesOf (fun k => k ≠ .localKind) = t :: rest → s.table? t.number = some x →
            let walk := t.number :: rest.map (·.number)
            let seed : Pair := ⟨t.number + 1, t.length⟩
            (x.base ∉ s.lostList → s.autoVerify = { s with
              autoCount := 0, waiting := { s.waiting with verify := true }
              verify := some ⟨.auto, s.cycle, walk, 0, 0, seed, false, []⟩ })
            ∧ (x.base ∈ s.lostList → s.autoVerify.autoCount = 0
              ∧ (rest = [] → s.autoVerify.verify = none ∧ s.autoVerify.kept = [⟨t.number, .skipped, seed⟩])
              ∧ ∀ n more y, rest = n :: more → s.table? n.number = some y → y.base ∉ s.lostList →
                s.autoVerify.waiting.verify = true ∧ s.autoVerify.kept = s.kept
                ∧ s.autoVerify.verify = some ⟨.auto, s.cycle, walk, 1, 0, ⟨y.number + 1, y.length⟩, false,
                  [⟨t.number, .skipped, seed⟩]⟩))))

/-- For a close of origin MARK that completes in RECEIVING, phase CLOSING: with a CLOSE MARK that is not final the
part stays RECEIVING, the phase is APPLYING again, the marks taken have advanced, no frame is in processing and the
stall timer has restarted. With a final one for n the part is ACTIVE afterwards only if its STATIC and VITAL pairs are
those the mark carries. If they are, and at least two lanes are then held ACTIVE, it is ACTIVE with its own record
ACTIVE from the successor of n, source SELF REPORT, last voted cycle n and no receive record; if they are not, it is
not ACTIVE. (R26, R62, R134, R158, R159, R161) -/
def Obligations.FinalMarkDecidesResynchronisation : Prop :=
  ∀ (s : State) (c : CloseRecord) r m pos, c.origin = .mark → s.part = .receiving → s.receive = some r →
    r.phase = .closing → r.frame = some (m, pos) →
    let u := s.completeClose c
    let pairs := s.workingPairs fun k => k ≠ .localKind
    (∀ n, m = .closeMark n none →
      u.part = .receiving ∧ ∃ f, u.receive = some f ∧ f.phase = .applying ∧ f.frame = none
        ∧ f.marks = min 65535 (r.marks + 1) ∧ f.stall = some s.timings.stallTime)
    ∧ (∀ n ds own, m = .closeMark n (some ds) → s.ownLane = some own →
      (u.part = .active → pairs = ds)
      ∧ (pairs = ds →
        2 ≤ (s.standings.set own ⟨.active, some (successor n), some .selfReport⟩).activeCount →
        u.part = .active ∧ u.receive = none ∧ u.lastVoted = n ∧ u.cycle = c.cycle ∧ u.confirmed = false
        ∧ u.vote = none ∧ u.slotX1 = none ∧ u.slotX2 = none
        ∧ u.standings = s.standings.set own ⟨.active, some (successor n), some .selfReport⟩))

/-- A ROLLBACK entering service is answered WRONG STATE outside ACTIVE and NO CHECKPOINT where checkpoint-valid is
false. Else, with a word to handle, it stays in service and the rollback record is made, over every table word where
WIDE is set and over the change list otherwise; with none it completes at once. At word a, with no value taken, a
granted read of the copy at a + 32768 that gives v takes v; where the copy is uncorrectable the rollback waits for
another reader's decision on the pair that stands at its change (the model's reading, log 25), and else records COPY
FAILURE at the copy, sets checkpoint-valid false and goes on with the word's copy failed, no word written. With v
taken, a lost word is written v through the change path with unknown old value and counted; a word that reads v is
passed; a word that reads another value is changed to v with that old value and counted; an uncorrectable word starts
the loss decision. A rollback that has handled a word goes on with the next covered word; after the last it takes the
lost words whose copy has not failed; with none left and no copy failure it completes: working pairs from checkpoint
pairs, no table unsettled, both lists empty, WIDE clear, the rollback and a running verify pass ended, the cycle
number, checkpoint-valid, the checkpoint pairs and the words standing, and the reply DONE with the number of words
restored. After a copy failure it ends instead with LOST, the lost list and that number, and leaves all of these as
they stand. (R66, R67, R25, R56, R68, R69) -/
def Obligations.RollbackRestoresWordsAndPairs : Prop :=
  (∀ s : State, s.entering = some .rollback →
    (s.part ≠ .active → exec .rollback s = .next (s.answer .wrongState .none).settle)
    ∧ (s.part = .active → s.checkpointValid = false →
      exec .rollback s = .next (s.answer .noCheckpoint .none).settle)
    ∧ (s.part = .active → s.checkpointValid = true →
      (s.wide = true → 0 < s.totalLength →
        exec .rollback s = .next ((s.work .rollback).setRollback ⟨true, 0, 0, none, false, []⟩).settle)
      ∧ (s.wide = false → s.changeList ≠ [] →
        exec .rollback s = .next ((s.work .rollback).setRollback ⟨false, 0, 0, none, false, []⟩).settle)
      ∧ ((s.wide = true ∧ s.totalLength = 0 ∨ s.wide = false ∧ s.changeList = []) → s.lostList = [] → ∃ u : State,
        exec .rollback s = .next u.settle
        ∧ u.tables = s.tables.map (fun t => { t with working := t.checkpoint, unsettled := false })
        ∧ u.lostList = [] ∧ u.changeList = [] ∧ u.wide = false ∧ u.rollback = none ∧ u.verify = none
        ∧ u.cycle = s.cycle ∧ u.checkpointValid = true ∧ u.store = s.store
        ∧ u.requests = ((s.work .rollback).answer .done (.count 0)).requests)))
    ∧ (∀ (s : State) (g : Grant) r a s1, s.rollback = some r → s.rollbackWord r = some a →
      s.grantWork g .cycle .rollback = some s1 →
      (∀ s2 v, r.value = none → s1.readWord (a + 32768) g.upset = (s2, some v) →
        exec (.rollbackAccess g) s = .next (s2.setRollback { r with value := some v }).settle)
      ∧ (∀ s2, r.value = none → s1.readWord (a + 32768) g.upset = (s2, none) →
        let held := ∃ q d b w more, q ≠ Requester.cycle ∧ s2.loss.get q = .deciding d
          ∧ (if d.first < 32768 then d.first else d.first - 32768) = a ∧ d.todo = .safeChange b w :: more
        (held →
          exec (.rollbackAccess g) s = .next (s2.setLoss .cycle (.retrying a)).settle)
        ∧ (¬held → ∃ u : State,
          exec (.rollbackAccess g) s = .next
            (u.rollbackAdvance { r with failedCopies := r.failedCopies ++ [a] } 0).settle
          ∧ SameImage s2 u ∧ u.checkpointValid = false ∧ s2.wordFault .copyFailure (a + 32768) ∈ u.log))
      ∧ (∀ v, r.value = some v → a ∈ s1.lostList →
        exec (.rollbackAccess g) s = .next ((s1.changeWord a none v).rollbackAdvance r 1).settle)
      ∧ (∀ s2 v, r.value = some v → a ∉ s1.lostList → s1.readWord a g.upset = (s2, some v) →
        exec (.rollbackAccess g) s = .next (s2.rollbackAdvance r 0).settle)
      ∧ (∀ s2 v o, r.value = some v → a ∉ s1.lostList → s1.readWord a g.upset = (s2, some o) → o ≠ v →
        exec (.rollbackAccess g) s = .next ((s2.changeWord a (some o) v).rollbackAdvance r 1).settle)
      ∧ (∀ s2 v, r.value = some v → a ∉ s1.lostList → s1.readWord a g.upset = (s2, none) →
        exec (.rollbackAccess g) s = .next ((s2.meetLoss .cycle a).settleLoss .cycle).settle))
    ∧ (∀ (s : State) (r : RollbackRecord) (n : Nat),
     let u := s.rollbackAdvance r n
     let moved := { r with position := r.position + 1, restored := r.restored + n, value := none }
     let sweeping := { moved with sweeping := true }
     (∀ b, s.rollbackWord moved = some b → u = s.setRollback moved)
     ∧ (s.rollbackWord moved = none →
       (∀ b, r.sweeping = false → s.rollbackWord sweeping = some b → u = s.setRollback sweeping)
       ∧ (s.rollbackWord sweeping = none →
         (r.failedCopies = [] →
           u.tables = s.tables.map (fun t => { t with working := t.checkpoint, unsettled := false })
           ∧ u.lostList = [] ∧ u.changeList = [] ∧ u.wide = false ∧ u.rollback = none ∧ u.verify = none
           ∧ u.cycle = s.cycle ∧ u.checkpointValid = s.checkpointValid ∧ u.store = s.store
           ∧ u.requests = (s.answer .done (.count (r.restored + n))).requests)
         ∧ (r.failedCopies ≠ [] → ∃ w,
           u = (({ s with waiting := s.waiting.set .cycle false, loss := w, rollback := none } : State).answer .lost
             (.lostRollback s.lostNames (r.restored + n)))))))

/-- At the word of offset k of the table t at its cursor: a granted read that gives v adds v to the sums and passes
the word; an uncorrectable one only makes the safe-value write due. When that write is granted the word holds the safe
value with fresh check bits, WORD CLEARED is recorded, the word leaves the lost list, the safe value is added and the
word is passed; neither list gains an entry. Passing a table's last word makes the sums its working pair, sets its
unsettled flag exactly if a word of it is lost, and moves the cursor to the next table with that table's seed. With
the last table the pass ends: in STARTING the full checkpoint copy begins at the first word, spoiled where the pass
has been marked so (by a write of the loss decision table in STARTING); in JOINING the part asks the lowest-lettered
ACTIVE peer not asked in this join, and with none is EXCLUDED or HALTED without a join record, RESYNC FAILED being
recorded with reason NO DONOR; in another state nothing follows. (R28, R30, R77, R142, R144) -/
def Obligations.EstablishingPassTakesEveryWord : Prop :=
  (∀ (s : State) (g : Grant) e t s1, s.establish = some e → s.tables[e.index]? = some t →
    let a := t.base + e.offset
    (s.grantWork g .cycle .establishRead = some s1 →
      (∀ s2 v, s1.readWord a g.upset = (s2, some v) →
        exec (.establishingRead g) s = .next (s2.establishTake e t v).settle)
      ∧ (∀ s2, s1.readWord a g.upset = (s2, none) →
        exec (.establishingRead g) s = .next
          ({ s2 with establish := some { e with writeDue := true } } : State).settle))
    ∧ (s.grantWork g .cycle .establishWrite = some s1 → ∃ u : State,
      exec (.establishingSafeWrite g) s = .next (u.establishTake e t t.safe).settle
      ∧ u = (({ s1 with store := s1.store.set a ⟨t.safe, 0⟩ } : State).logFault (s.wordFault .wordCleared a)).unlose a))
    ∧ (∀ (s : State) e t v, s.tables[e.index]? = some t →
      let sums : Pair :=
        ⟨(e.sums.d1 + v.toNat % 65521) % 65521,
          (e.sums.d2 + (e.offset + 1) * (v.toNat % 65521) % 65521) % 65521⟩
      let u := s.establishTake e t v
      (e.offset + 1 < t.length →
        u = { s with establish := some { e with offset := e.offset + 1, sums, writeDue := false } })
      ∧ (t.length ≤ e.offset + 1 →
        let done := s.tables.map fun x =>
          if x.number = t.number then { x with working := some sums, unsettled := s.lostList.any t.covers } else x
        (∀ n, s.tables[e.index + 1]? = some n →
          u = { s with
            tables := done, establish := some ⟨e.index + 1, 0, ⟨n.number + 1, n.length⟩, false, e.spoiled⟩ })
        ∧ (s.tables[e.index + 1]? = none →
          let ended := { s with tables := done, establish := none }
          (s.part ∉ [PartState.starting, .joining] → u = ended)
          ∧ (s.part = .starting → 0 < s.totalLength → 
            u = { ended with fullCopy := some ⟨0, none, s.establish.any (·.spoiled)⟩ })
          ∧ (∀ j l q, s.part = .joining → s.join = some j → s.standingOf l = .active → l ∉ j.asked →
            s.portOf l = some q →
            (∀ m, laneCode (some m) < laneCode (some l) →
              s.standingOf m ≠ .active ∨ m ∈ j.asked ∨ s.portOf m = none) →
            u = ({ ended with join := some ⟨j.ranges, j.descriptor, .asking, j.asked ++ [l], some l, some l,
                some s.timings.joinWait, j.refusal⟩ } : State).sendControl q
              (.joinAsk (s.tables.map fun x => ⟨x.number, x.kind, x.length⟩)
                (ended.workingPairs fun k => k = .static) j.descriptor))
          ∧ (∀ j, s.part = .joining → s.join = some j →
            (∀ m, s.standingOf m ≠ .active ∨ m ∈ j.asked ∨ s.portOf m = none) →
            SameImage ended u ∧ u.join = none ∧ (u.part = .excluded ∨ u.part = .halted)
            ∧ ⟨.resyncFailed, s.cycle, none, none, none, j.last.map some, some (.resync .noDonor), none⟩ ∈ u.log))))

/-! ### Starting and joining -/

/-- A START COLD entering service is answered WRONG STATE outside CONFIG, REFUSED (NO LANE), REFUSED (NO INSTALLATION)
for code 0, REFUSED (NO VITAL) without a VITAL table. Else it stays in service, the part is STARTING, every pair is
not established or absent, no table is unsettled, the lists are empty, WIDE is clear, checkpoint-valid is false, and
the pass stands at offset 0 of the first table with its seed; nothing else changes before the transmitters begin.
(R188, R27, R182) -/
def Obligations.StartColdChecksThenEstablishes : Prop :=
  ∀ s : State, s.entering = some .startCold →
    (s.part ≠ .config → exec .startCold s = .next (s.answer .wrongState .none).settle)
    ∧ (s.part = .config →
      (s.strap = 3 → exec .startCold s = .next (s.answer (.refused .noLane) .none).settle)
      ∧ (s.strap ≠ 3 →
        (s.installation = 0 → exec .startCold s = .next (s.answer (.refused .noInstallation) .none).settle)
        ∧ (s.installation ≠ 0 →
          ((∀ t ∈ s.tables, t.kind ≠ .vital) →
            exec .startCold s = .next (s.answer (.refused .noVital) .none).settle)
          ∧ (∀ t rest, s.tables = t :: rest → (∃ v ∈ s.tables, v.kind = .vital) →
            exec .startCold s = .next
              ({ s.work .startCold with
                part := .starting
                tables := s.tables.map fun x => { x with working := none, checkpoint := none, unsettled := false }
                lostList := [], changeList := [], wide := false, checkpointValid := false
                establish := some ⟨0, 0, ⟨t.number + 1, t.length⟩, false, false⟩ } : State).settle))))

/-- At its word a granted read that gives v keeps v, an uncorrectable one starts the loss decision, and the next
granted access writes v with fresh check bits 32768 higher; while words remain the copy goes on. After the last word
the part is ACTIVE: cycle 0, checkpoint pairs from working pairs, checkpoint-valid true exactly for a copy not spoiled
with no table unsettled, all three records ACTIVE from cycle 1 with source COLD START, last voted cycle 0, no vote
record, empty slots, the confirmed flag clear, STANDING NOTICEs on both ports, and START COLD answered DONE with the
cycle, the flag, the words copied and the VITAL pairs. (R65, R136, R189, R119) -/
def Obligations.ColdStartCopiesThenEntersActive : Prop :=
  (∀ (s : State) (g : Grant) f s1, s.fullCopy = some f → s.grantWork g .cycle .fullCopy = some s1 →
    (∀ s2 v, f.value = none → s1.readWord f.position g.upset = (s2, some v) →
      exec (.fullCopyAccess g) s = .next ({ s2 with fullCopy := some { f with value := some v } } : State).settle)
    ∧ (∀ s2, f.value = none → s1.readWord f.position g.upset = (s2, none) →
      exec (.fullCopyAccess g) s = .next ((s2.meetLoss .cycle f.position).settleLoss .cycle).settle)
    ∧ (∀ v, f.value = some v →
      let u := { s1 with store := s1.store.set (f.position + 32768) ⟨v, 0⟩ }
      (f.position + 1 < s.totalLength →
        exec (.fullCopyAccess g) s = .next
          ({ u with fullCopy := some ⟨f.position + 1, none, f.spoiled⟩ } : State).settle)
      ∧ (s.totalLength ≤ f.position + 1 →
        exec (.fullCopyAccess g) s = .next (u.endFullCopy f.spoiled).settle)))
    ∧ (∀ (s : State) (spoiled : Bool),
      let u := s.endFullCopy spoiled
      let record : StandingRecord := ⟨.active, some 1, some .coldStart⟩
      u.part = .active ∧ u.cycle = 0 ∧ u.standings = ⟨record, record, record⟩ ∧ u.lastVoted = 0
      ∧ u.tables = s.tables.map (fun t => { t with checkpoint := t.working })
      ∧ u.checkpointValid = (!spoiled && s.tables.all fun t => !t.unsettled)
      ∧ u.vote = none ∧ u.slotX1 = none ∧ u.slotX2 = none ∧ u.confirmed = false ∧ u.fullCopy = none
      ∧ u.store = s.store ∧ u.lostList = s.lostList ∧ u.changeList = s.changeList
      ∧ (∀ p, (u.port p).send = ((s.port p).queue ⟨.standingNotice u.standings.list, false⟩).send)
      ∧ u.requests = (s.answer .done (.started 0 u.checkpointValid s.totalLength
          (s.workingPairs fun k => k = .vital))).requests)

/-- A JOIN entering service is answered WRONG STATE outside CONFIG and EXCLUDED or while an establishing pass runs,
then REFUSED (NO LANE), (NO INSTALLATION), (VERSION) for a version other than 1; then for the first range that fails
NO TABLE, STATIC RANGE, ZERO COUNT or RANGE with its position; then OVERLAP with the positions of the first
overlapping pair, the earlier member's first (the model's choice, log 22). Else, with a table defined, the reply is
DONE with the number of ranges of the expanded list, the part is JOINING with its own record JOINING from a self
report, the join record is in ESTABLISHING, a running verify pass has ended, the lists are empty, checkpoint-valid is
false, every pair is absent, and the establishing pass stands at the first table. Cycle and words stand. With an empty
directory the pass ends at once: the part is JOINING and asks the lowest-lettered ACTIVE peer with a JOIN ASK of empty
lists on its port and the join wait running; with no ACTIVE peer the join fails in the same event, the part is
EXCLUDED or HALTED, and RESYNC FAILED has reason NO DONOR. (R138, R139, R140, R27, R99, R142, R144) -/
def Obligations.JoinChecksRangesThenEntersJoining : Prop :=
  ∀ (s : State) version ranges, s.entering = some (.join version ranges) →
    let refused := fun (st : Status) (f : ReplyFields) => exec .join s = .next (s.answer st f).settle
    (s.part ∉ [PartState.config, .excluded] ∨ s.establish.isSome = true → refused .wrongState .none)
    ∧ (s.part ∈ [PartState.config, .excluded] → s.establish = none →
      (s.strap = 3 → refused (.refused .noLane) .none)
      ∧ (s.strap ≠ 3 →
        (s.installation = 0 → refused (.refused .noInstallation) .none)
        ∧ (s.installation ≠ 0 →
          (version ≠ 1 → refused (.refused .version) .none)
          ∧ (version = 1 →
            (∀ pre r post, ranges = pre ++ r :: post → (∀ q ∈ pre, s.rangeRefusal q = none) →
              (s.table? r.table = none → refused .noTable (.positions [pre.length + 1]))
              ∧ ∀ t, s.table? r.table = some t →
                (t.kind = .static → refused (.refused .staticRange) (.positions [pre.length + 1]))
                ∧ (t.kind ≠ .static → r.count = 0 → refused (.refused .zeroCount) (.positions [pre.length + 1]))
                ∧ (t.kind ≠ .static → r.count ≠ 0 → t.length < r.first + r.count →
                  refused .range (.positions [pre.length + 1])))
            ∧ ((∀ q ∈ ranges, s.rangeRefusal q = none) →
              (∀ (i j : Nat) (r q : Range), i < j → ranges[i]? = some r → ranges[j]? = some q → r.overlaps q = true →
                (∀ (i' j' : Nat) (r' q' : Range), j' < j ∨ (j' = j ∧ i' < i) → i' < j' → ranges[i']? = some r' → ranges[j']? = some q' →
                  r'.overlaps q' = false) →
                refused (.refused .overlap) (.positions [i + 1, j + 1]))
              ∧ ((∀ (i j : Nat) (r q : Range), i < j → ranges[i]? = some r → ranges[j]? = some q → r.overlaps q = false) →
                s.tables ≠ [] → ∃ u : State,
                exec .join s = .next u.settle
                ∧ u.requests = (s.answer .done (.ranges (s.expandRanges ranges).length)).requests
                ∧ u.part = .joining ∧ (∀ l, s.ownLane = some l →
                  u.standings = s.standings.set l ⟨.joining, none, some .selfReport⟩)
                ∧ u.join = some ⟨s.expandRanges ranges, ranges, .establishing, [], none, none, none, none⟩
                ∧ u.verify = none ∧ u.lostList = [] ∧ u.changeList = [] ∧ u.wide = false ∧ u.checkpointValid = false
                ∧ u.tables = s.tables.map (fun x => { x with working := none, checkpoint := none, unsettled := false })
                ∧ (∀ t, s.tables.head? = some t → u.establish = some ⟨0, 0, ⟨t.number + 1, t.length⟩, false, false⟩)
                ∧ u.cycle = s.cycle ∧ u.store = s.store)
              ∧ (ranges = [] → s.tables = [] →
                let replied := fun (u : State) => exec .join s = .next u.settle
                  ∧ u.requests = (s.answer .done (.ranges 0)).requests
                  ∧ u.verify = none ∧ u.establish = none ∧ u.lostList = [] ∧ u.changeList = [] ∧ u.wide = false
                  ∧ u.checkpointValid = false ∧ u.tables = [] ∧ u.cycle = s.cycle ∧ u.store = s.store
                (∀ l q, s.standingOf l = .active → s.portOf l = some q →
                  (∀ m, laneCode (some m) < laneCode (some l) → s.standingOf m ≠ .active ∨ s.portOf m = none) →
                  ∃ u : State, replied u ∧ u.part = .joining
                  ∧ u.join = some ⟨[], [], .asking, [l], some l, some l, some s.timings.joinWait, none⟩
                  ∧ (u.port q).send.getLast? = some ⟨.joinAsk [] [] [], false⟩)
                ∧ ((∀ m, s.standingOf m ≠ .active ∨ s.portOf m = none) →
                  ∃ u : State, replied u ∧ u.join = none ∧ (u.part = .excluded ∨ u.part = .halted)
                  ∧ ⟨.resyncFailed, s.cycle, none, none, none, none, some (.resync .noDonor), none⟩ ∈ u.log)))))))

/-! ### The verify pass -/

/-- VERIFY is answered WRONG STATE outside ACTIVE, EXCLUDED and RECEIVING and while an establishing pass runs, REFUSED
(RUNNING) beside a pass. Else, with a table to walk, the pass stands at the first with its seed and asks for its first
read, or, where the first word is lost, that table ends SKIPPED at once and the read of the next is asked for, or the
pass is over; the auto-verify count is 0, and DONE carries the cycle and the number of tables. With no table to walk
the pass is complete at once, with no kept result and its notice, and DONE carries 0 tables. The walk list holds
exactly the STATIC and VITAL tables in ascending number. VERIFY STOP is answered WRONG STATE in INIT, REFUSED (NOT
RUNNING) without a pass; else the pass ends where it stands with its notice, and DONE carries the number of tables
ended. READ DIGESTS is answered WRONG STATE in INIT and CONFIG or while a pair is not established, NO TABLE for an
unknown number; else DONE with the pairs as held. (R31, R90, R92, R96, R97, R98) -/
def Obligations.VerifyAndDigestRequestsChecked : Prop :=
  (∀ s : State, s.entering = some .verify →
    (s.part ∉ [PartState.active, .excluded, .receiving] ∨ s.establish.isSome = true →
      exec .verify s = .next (s.answer .wrongState .none).settle)
    ∧ (s.part ∈ [PartState.active, .excluded, .receiving] → s.establish = none →
      (s.verify.isSome = true → exec .verify s = .next (s.answer (.refused .running) .none).settle)
      ∧ (s.verify = none → s.tablesOf (fun k => k ≠ .localKind) = [] → exec .verify s = .next
        ((({ s with autoCount := 0, kept := [] } : State).notify
          (.verify .complete .request s.cycle s.cycle [] none)).answer .done (.verifyStarted s.cycle 0)).settle)
      ∧ ∀ t rest x, s.verify = none → s.tablesOf (fun k => k ≠ .localKind) = t :: rest → s.table? t.number = some x →
        let walk := t.number :: rest.map (·.number)
        let seed : Pair := ⟨t.number + 1, t.length⟩
        let replied := fun (u : State) =>
          exec .verify s = .next (u.answer .done (.verifyStarted s.cycle (rest.length + 1))).settle
        (x.base ∉ s.lostList →
          replied { s with
            autoCount := 0, waiting := { s.waiting with verify := true }
            verify := some ⟨.request, s.cycle, walk, 0, 0, seed, false, []⟩ })
        ∧ (x.base ∈ s.lostList → ∃ u : State, replied u ∧ u.autoCount = 0 ∧ u.tables = s.tables
          ∧ u.store = s.store ∧ u.log = s.log ∧ u.requests = s.requests
          ∧ (rest = [] → u.verify = none ∧ u.kept = [⟨t.number, .skipped, seed⟩])
          ∧ (∀ n more y, rest = n :: more → s.table? n.number = some y → y.base ∉ s.lostList →
            u.waiting.verify = true ∧ u.kept = s.kept
            ∧ u.verify = some ⟨.request, s.cycle, walk, 1, 0, ⟨y.number + 1, y.length⟩, false,
              [⟨t.number, .skipped, seed⟩]⟩))))
    ∧ (∀ (s : State) (keep : TableKind → Bool),
      (s.tablesOf keep).Pairwise (fun t u => t.number ≤ u.number)
      ∧ ∀ t, t ∈ s.tablesOf keep ↔ t ∈ s.tables ∧ keep t.kind = true)
    ∧ (∀ s : State, s.entering = some .verifyStop →
      (s.part = .init → exec .verifyStop s = .next (s.answer .wrongState .none).settle)
      ∧ (s.part ≠ .init → s.verify = none →
        exec .verifyStop s = .next (s.answer (.refused .notRunning) .none).settle)
      ∧ ∀ v, s.part ≠ .init → s.verify = some v →
        exec .verifyStop s = .next
          ((({ s.withdraw .verify with verify := none } : State).notify
            (.verify .stopped v.origin v.startCycle s.cycle v.results (v.walk[v.index]?.map fun n => (n, v.cursor)))).answer
              .done (.count v.results.length)).settle)
    ∧ (∀ (s : State) numbers, s.entering = some (.readDigests numbers) →
      (s.part ∈ [PartState.init, .config] ∨ s.establish.isSome = true ∨ (∃ t ∈ s.tables, t.working = none) →
        exec .readDigests s = .next (s.answer .wrongState .none).settle)
      ∧ (s.part ∉ [PartState.init, .config] → s.establish = none → (∀ t ∈ s.tables, t.working ≠ none) →
        ((∃ n ∈ numbers, s.table? n = none) → exec .readDigests s = .next (s.answer .noTable .none).settle)
        ∧ ∀ listed : List Table, (numbers = [] → listed = s.tables) →
          (numbers ≠ [] → listed.map some = numbers.map s.table?) →
          exec .readDigests s = .next
            (s.answer .done (.digests s.cycle s.checkpointValid
              (listed.map fun t => ⟨t.number, t.working, t.checkpoint, t.unsettled⟩))).settle))

/-- At its granted read a value is added to the accumulator and the word passed, and the last word ends the table; an
uncorrectable word starts the loss decision; a lost next word, or the skip flag, ends the table without a read, marked
to skip, unless its read is already asked for, which is then made. A table that ends with the mark or with a lost word
is SKIPPED and stands; else an unsettled one takes the accumulator as its pair and is settled; else an equal pair
AGREES and stands; else the pair becomes the accumulator and DIGEST DRIFT is recorded with both. The result is
appended and the pass goes on at the next table with its seed, or after the last is over with its results kept. (R92,
R93, R94, R95, R96) -/
def Obligations.VerifyPassSumsAndJudgesTables : Prop :=
  (∀ (s : State) (g : Grant) v n t s1, s.verify = some v → v.walk[v.index]? = some n → s.table? n = some t →
    let a := t.base + v.cursor
    (s.atWork .verify = true → s.waiting.verify = false → v.skip = true ∨ a ∈ s.lostList →
      exec (.verifyRead g) s = .next
        (({ s.setLoss .verify .idle with verify := some { v with skip := true } } : State).endVerifyTable).settle)
    ∧ (s.waiting.verify = true ∨ (v.skip = false ∧ a ∉ s.lostList) → s.grantWork g .verify .verifyRead = some s1 →
      (∀ s2, s1.readWord a g.upset = (s2, none) →
        exec (.verifyRead g) s = .next ((s2.meetLoss .verify a).settleLoss .verify).settle)
      ∧ ∀ s2 x, s1.readWord a g.upset = (s2, some x) →
        let sums : Pair :=
          ⟨(v.sums.d1 + x.toNat % 65521) % 65521, (v.sums.d2 + (v.cursor + 1) * (x.toNat % 65521) % 65521) % 65521⟩
        let u := ({ s2 with verify := some { v with sums, cursor := v.cursor + 1 } } : State)
        (v.cursor + 1 < t.length → exec (.verifyRead g) s = .next u.settle)
        ∧ (t.length ≤ v.cursor + 1 → exec (.verifyRead g) s = .next (u.endVerifyTable).settle)))
    ∧ (∀ (s : State) v n t verdict, s.verify = some v → v.walk[v.index]? = some n → s.table? n = some t →
      let lost := ∃ a ∈ s.lostList, t.covers a = true
      ((v.skip = true ∨ lost) ∧ verdict = .skipped
        ∨ v.skip = false ∧ ¬lost ∧ t.unsettled = true ∧ verdict = .resettled
        ∨ v.skip = false ∧ ¬lost ∧ t.unsettled = false ∧ t.working = some v.sums ∧ verdict = .agrees
        ∨ v.skip = false ∧ ¬lost ∧ t.unsettled = false ∧ ∃ p, t.working = some p ∧ p ≠ v.sums ∧ verdict = .drift p) →
      let u := s.endVerifyTable
      let results := v.results ++ [⟨n, verdict, v.sums⟩]
      (verdict = .skipped ∨ verdict = .agrees → u.tables = s.tables)
      ∧ (verdict = .resettled → u.tables = s.tables.map fun x =>
        if x.number = n then { x with working := some v.sums, unsettled := false } else x)
      ∧ (∀ p, verdict = .drift p →
        (u.tables = s.tables.map fun x => if x.number = n then { x with working := some v.sums } else x)
        ∧ ⟨.digestDrift, s.cycle, none, some n, none, none, none, some (p, v.sums)⟩ ∈ u.log)
      ∧ ((∀ p, verdict ≠ .drift p) → u.log = s.log ∧ u.part = s.part)
      ∧ (v.walk.length ≤ v.index + 1 → u.verify = none ∧ u.kept = results)
      ∧ (∀ m x, v.walk[v.index + 1]? = some m → s.table? m = some x →
        u.kept = s.kept ∧ u.verify = some { v with
          index := v.index + 1, cursor := 0, sums := ⟨x.number + 1, x.length⟩, skip := false, results }))

/-! ### Scrubbing and loss decisions -/

/-- A pace tick restarts the pace counter; an idle scrub unit outside INIT asks for its read, and one that waits or
holds a decision counts a lag up to 65535; without a running pace counter a tick has no effect (the model's choice,
log 2). At the granted read the cursor passes the address, from 65535 to 0 with the pass count advancing; a word that
reads is no more than read and corrected; a working word on the lost list is neither written back nor recorded; an
uncorrectable word in no other reader's decision opens one, and one in another's decision none. (R75, R85, R86, R87)
-/
def Obligations.ScrubReadsOneWordPerTick : Prop :=
  (∀ (s : State) n, s.pace = some n → s.part ≠ .init →
    let s1 := { s with pace := some (s.timings.prescale * (s.timings.period + 1)) }
    ((∀ d, s.loss.scrub ≠ .deciding d) → s.waiting.scrub = false →
      exec .paceTick s = .next { s1 with waiting := { s.waiting with scrub := true } })
    ∧ ((∃ d, s.loss.scrub = .deciding d) ∨ s.waiting.scrub = true →
      exec .paceTick s = .next { s1 with scrubLag := min 65535 (s.scrubLag + 1) }))
    ∧ (∀ s : State, s.pace = none → exec .paceTick s = .next s)
    ∧ (∀ (s : State) (g : Grant) r t, s.grant g .scrubRead = some (r, t) → s.scrubCursor < 65536 →
      s.scrubPasses ≤ 65535 →
      let a := s.scrubCursor
      let passed := { t with
        scrubCursor := (a + 1) % 65536
        scrubPasses := if a = 65535 then (s.scrubPasses + 1) % 65536 else s.scrubPasses }
      (a < 32768 → a ∈ s.lostList →
        exec (.scrubRead g) s = .next (passed.disturb a g.upset).settle)
      ∧ (¬ (a < 32768 ∧ a ∈ s.lostList) →
        (∀ s2 v, passed.readWord a g.upset = (s2, some v) → exec (.scrubRead g) s = .next s2.settle)
        ∧ (∀ s2, passed.readWord a g.upset = (s2, none) →
          (s2.decidedByOther .scrub (if a < 32768 then a else a - 32768) = true →
            exec (.scrubRead g) s = .next s2.settle)
          ∧ (s2.decidedByOther .scrub (if a < 32768 then a else a - 32768) = false →
            exec (.scrubRead g) s = .next
              ((firstRow s2 a).1.setLoss .scrub (lossOf a (firstRow s2 a).2)).settle))))

/-- For a store address: a reader that finds the word uncorrectable waits, with no action, where its pair is in
another reader's decision, opens none for a working word on the lost list, and else holds the writes of the word's row
as its decision. The row is a state, after what is done in the access, and the writes to come. A free word is to be
written 0, and so is a table word in CONFIG; in STARTING the safe value goes to a copy, or to a working word as a
change; each records WORD CLEARED, at the read, once for each word and with its own address (the model's reading, logs
12 and 13). In the five running states an unlisted, unlost word under a valid checkpoint has its other copy read
first; else a working word becomes lost: lost list, change list, unsettled, WORKING WORD LOST; a ninth one is to take
the safe value as a change, LOST OVERFLOW; a copy is to be written 0, WORD CLEARED, or CHECKPOINT WORD LOST with
checkpoint-valid false where it was true. At the second read a restorable word is to take the value read, or both
copies the safe value, DOUBLE LOSS with checkpoint-valid false; any other word takes its own row, and the other copy
its row after it where it too reads uncorrectable, a working word only if it is not lost already. Checkpoint-valid set
false where it was true ends a rollback in flight, with reply NO CHECKPOINT and the number of words restored (at the
second read of a listed word on the premise that no close and no receive record stands beside the rollback, which
every step keeps: PartStateAndUnitRecordsKept); the rows that lose a word or find checkpoint-valid false leave the
rollback standing. (R51, R69, R73, R74, R75, R76, R77, R78, R79, R80, R81, R82) -/
def Obligations.LossDecisionRowsChosenByState : Prop :=
  ∀ (s : State) (address : Nat), address < 65536 →
    let a := if address < 32768 then address else address - 32768
    let other := if address < 32768 then address + 32768 else address - 32768
    let running := s.part ∈ [PartState.active, .excluded, .joining, .receiving, .halted]
    let listed := a ∈ s.changeList ∨ s.wide = true
    let r := firstRow s address
    let endsRollback := fun (u : State) => u.rollback = none
      ∧ (s.rollback = none → u.requests = s.requests)
      ∧ ∀ b, s.rollback = some b → u.requests = (s.answer .noCheckpoint (.count b.restored)).requests
    (∀ q : Requester,
      let others := ∃ p d, p ≠ q ∧ s.loss.get p = .deciding d
        ∧ (if d.first < 32768 then d.first else d.first - 32768) = a
      let lost := address < 32768 ∧ a ∈ s.lostList
      (others → s.meetLoss q address = s.setLoss q (.retrying a))
      ∧ (¬others → lost → s.meetLoss q address = s.setLoss q .idle)
      ∧ (¬others → ¬lost →
        s.meetLoss q address = r.1.setLoss q (if r.2 = [] then .idle else .deciding ⟨address, r.2⟩)))
    ∧ (s.tableAt a = none →
      r = (s.logFault (s.wordFault .wordCleared address), [.clear address 0])
      ∧ secondRow s address none =
        ((r.1.logFault (s.wordFault .wordCleared other)), [.clear address 0, .clear other 0]))
    ∧ (∀ t, s.tableAt a = some t →
      (s.part = .config →
        r = (s.logFault (s.wordFault .wordCleared address), [.clear address 0])
        ∧ secondRow s address none =
          (r.1.logFault (s.wordFault .wordCleared other), [.clear address 0, .clear other 0]))
      ∧ (s.part = .starting →
        let write := fun b => if b < 32768 then DecisionStep.safeChange b t.safe else .clear b t.safe
        r = (s.logFault (s.wordFault .wordCleared address), [write address])
        ∧ secondRow s address none =
          (r.1.logFault (s.wordFault .wordCleared other), [write address, write other]))
      ∧ (running → a ∉ s.lostList → ¬listed → s.checkpointValid = true →
        r = (s, [.readOther])
        ∧ (∀ v, secondRow s address (some v) = (s, [.restore v]))
        ∧ let d := secondRow s address none
          d.2 = [.clear (a + 32768) t.safe, .safeChange a t.safe] ∧ d.1.checkpointValid = false
          ∧ s.wordFault .doubleLoss address ∈ d.1.log ∧ endsRollback d.1 ∧ d.1.store = s.store ∧ d.1.lostList = s.lostList
          ∧ d.1.tables = s.tables)
      ∧ (running → address < 32768 → a ∉ s.lostList → listed ∨ s.checkpointValid = false →
        (s.lostList.length < 8 →
          r.2 = [] ∧ r.1.lostList = s.lostList ++ [a]
          ∧ (listed → r.1.changeList = s.changeList ∧ r.1.wide = s.wide)
          ∧ (¬listed → s.changeList.length < 1024 → r.1.changeList = s.changeList ++ [a] ∧ r.1.wide = s.wide)
          ∧ (¬listed → 1024 ≤ s.changeList.length → r.1.changeList = s.changeList ∧ r.1.wide = true)
          ∧ (r.1.tables = s.tables.map fun x => if x.number = t.number then { x with unsettled := true } else x)
          ∧ s.wordFault .workingWordLost address ∈ r.1.log ∧ r.1.rollback = s.rollback ∧ r.1.store = s.store)
        ∧ (8 ≤ s.lostList.length →
          r = (s.record (s.wordFault .lostOverflow address), [.safeChange a t.safe]) ∧ r.1.rollback = s.rollback))
      ∧ (running → 32768 ≤ address → s.checkpointValid = false →
        r = (s.logFault (s.wordFault .wordCleared address), [.clear address 0]))
      ∧ (running → 32768 ≤ address → s.checkpointValid = true → listed →
        r.2 = [.clear address 0] ∧ r.1.checkpointValid = false
        ∧ s.wordFault .checkpointWordLost address ∈ r.1.log ∧ endsRollback r.1 ∧ r.1.store = s.store ∧ r.1.lostList = s.lostList)
      ∧ (¬ (running ∧ a ∉ s.lostList ∧ ¬listed ∧ s.checkpointValid = true) →
        ∀ v, secondRow s address (some v) = r)
      ∧ (running → a ∈ s.lostList ∨ listed ∨ s.checkpointValid = false →
        let d := secondRow s address none
        (s.checkpointValid = true → listed → (s.rollback.isSome = true → s.close = none ∧ s.receive = none) →
          endsRollback d.1)
        ∧ (s.checkpointValid = false ∨ ¬listed → d.1.rollback = s.rollback)
        ∧ (address < 32768 → d.2 = r.2 ++ [.clear other 0]
          ∧ (a ∉ s.lostList ∨ listed → d.1.checkpointValid = false))
        ∧ (32768 ≤ address →
          d.2 = [.clear address 0] ++ (if a ∈ s.lostList ∨ s.lostList.length < 8 then [] else [.safeChange a t.safe])
          ∧ (a ∉ s.lostList → s.lostList.length < 8 → d.1.lostList = s.lostList ++ [a]
            ∧ s.wordFault .workingWordLost address ∈ d.1.log))))

/-- For the requester r granted the next access of its decision: the read of the other copy chooses the row again; a
clearing write stores its value with fresh check bits, a restore stores the other copy's value in the first word and
records WORKING or CHECKPOINT WORD RESTORED at that write (log 12, the model's reading), neither touching a digest
(behind the cursor of an establishing pass the model's choice, log 44), and a safe change goes through the change path
with unknown old value. In CONFIG every write to a table word leaves checkpoint-valid false; elsewhere a clearing
write to a table's checkpoint copy leaves it false, and one to a working word and a restore leave it. The first spoils
a close in flight, the others do not, and where checkpoint-valid was true it ends a rollback with NO CHECKPOINT and
the number of words restored; any other write leaves the rollback. Every write to a table word spoils a running full
copy, and in STARTING a clearing write or safe change the one to follow the establishing pass (which writes count
there: the model's choice, log 39); a safe change spoils a close whose copy pass waits for its pair (the model's
reading of R56, log 26). The remaining actions stand as the decision of r. A requester that holds or awaits a decision
does nothing of its own. One with neither takes up its work: a READ or WRITE MASKED whose word is lost ends with LOST;
a close in its check pass ends with LOST or UNSETTLED where a word is lost or a table unsettled; one whose copy pass
has no word left completes, or ends with LOST after a copy failure; a mark's close that ends so fails the
resynchronisation with LOCAL FAULT, and so does a lost word of the received frame; a lost block word ends serving with
SOURCE LOST; the table of a lost word ends SKIPPED. Else nothing changes. (05_store_faults_and_scrubbing.md,
04_cycles_change_list_checkpoint_and_rollback.md, R10, R41, R46, R51, R57, R69, R74, R93, R150, R157) -/
def Obligations.DecisionAccessesCarryOutRows : Prop :=
  (∀ (s : State) (g : Grant) (r : Requester) (t : State) first rest,
    let on := fun (u : State) todo => (((u.setLoss r (lossOf first todo)).settleLoss r).settle)
    let pair := fun (a : Nat) => if a < 32768 then a else a - 32768
    (∀ s2 other row todo, s.grant g .decisionOther = some (r, t) → t.loss.get r = .deciding ⟨first, .readOther :: rest⟩ →
      (t.setLoss r .idle).readWord (if first < 32768 then first + 32768 else first - 32768) g.upset = (s2, other) →
      secondRow s2 first other = (row, todo) →
      exec (.decisionOtherRead g) s = .next (on row todo))
    ∧ (∀ a v, s.grant g .decisionClear = some (r, t) → t.loss.get r = .deciding ⟨first, .clear a v :: rest⟩ →
      ∃ u : State, exec (.decisionClearWrite g) s = .next (on u rest)
      ∧ u.store = s.store.set a ⟨v, 0⟩ ∧ u.tables = s.tables ∧ u.lostList = s.lostList ∧ u.changeList = s.changeList
      ∧ u.log = s.log
      ∧ (32768 ≤ a → (s.tableAt (a - 32768)).isSome = true → u.checkpointValid = false
        ∧ u.close = s.close.map fun c => { c with spoiled := true })
      ∧ (32768 ≤ a ∧ (s.tableAt (a - 32768)).isSome = true ∧ s.part ≠ .config ∧ s.checkpointValid = true →
        u.rollback = none ∧ ∀ b, s.rollback = some b →
          u.requests = (s.answer .noCheckpoint (.count b.restored)).requests)
      ∧ (a < 32768 ∨ s.tableAt (a - 32768) = none ∨ s.part = .config ∨ s.checkpointValid = false ∨ s.rollback = none →
        u.rollback = s.rollback ∧ u.requests = s.requests)
      ∧ (a < 32768 → u.close = s.close ∧ (s.part ≠ .config → u.checkpointValid = s.checkpointValid))
      ∧ (s.tableAt (pair a) = none → u.checkpointValid = s.checkpointValid
        ∧ u.close = s.close ∧ u.fullCopy = s.fullCopy ∧ u.establish = s.establish)
      ∧ ((s.tableAt (pair a)).isSome = true →
        (s.part = .config → u.checkpointValid = false)
        ∧ u.fullCopy = (s.fullCopy.map fun f => { f with spoiled := true })
        ∧ u.establish = if s.part = .starting then s.establish.map fun e => { e with spoiled := true } else s.establish))
    ∧ (∀ v, s.grant g .decisionRestore = some (r, t) → t.loss.get r = .deciding ⟨first, .restore v :: rest⟩ →
      ∃ u : State, exec (.decisionRestoreWrite g) s = .next (on u rest)
      ∧ u.store = s.store.set first ⟨v, 0⟩ ∧ u.tables = s.tables ∧ u.lostList = s.lostList
      ∧ u.changeList = s.changeList ∧ u.establish = s.establish ∧ u.rollback = s.rollback
      ∧ (s.part ≠ .config → u.checkpointValid = s.checkpointValid)
      ∧ u.close = s.close
      ∧ (s.tableAt (pair first) = none → u.checkpointValid = s.checkpointValid ∧ u.fullCopy = s.fullCopy)
      ∧ ((s.tableAt (pair first)).isSome = true →
        (s.part = .config → u.checkpointValid = false)
        ∧ u.fullCopy = s.fullCopy.map fun f => { f with spoiled := true })
      ∧ s.wordFault (if first < 32768 then .workingWordRestored else .checkpointWordRestored) first ∈ u.log)
    ∧ (∀ a v, s.grant g .decisionSafe = some (r, t) → t.loss.get r = .deciding ⟨first, .safeChange a v :: rest⟩ →
      a < 32768 →
      let idle := t.setLoss r .idle
      let met : State := { idle with close := idle.close.map fun c =>
        if c.pass = .copy ∧ idle.loss.cycle = .retrying a then { c with spoiled := true } else c }
      let u := met.changeWord a none v
      u.rollback = s.rollback
      ∧ (s.tableAt a = none → exec (.decisionSafeChange g) s = .next (on u rest))
      ∧ ((s.tableAt a).isSome = true →
        exec (.decisionSafeChange g) s = .next (on
          { u with
            fullCopy := u.fullCopy.map fun f => { f with spoiled := true }
            establish := if s.part = .starting then u.establish.map fun e => { e with spoiled := true } else u.establish
            checkpointValid := if s.part = .config then false else u.checkpointValid } rest))))
    ∧ (∀ (u : State) (r : Requester),
      let w := u.settleLoss r
      let failed := fun (v : ReceiveRecord) => u.receive = some v → v.phase ≠ .failing →
        SameImage u w ∧ w.close = none
        ∧ (u.vitalTables ≠ [] → ∃ f, w.receive = some f ∧ f.phase = .failing ∧ f.frame = none
          ∧ f.failure = some .localFault)
        ∧ (u.vitalTables = [] → w.receive = none ∧ (w.part = .excluded ∨ w.part = .halted))
      (u.loss.get r ≠ .idle → w = u)
      ∧ (u.loss.get r = .idle →
        (r = .scrub → w = u)
        ∧ (∀ e n t, r = .lane → u.serving? = some e → u.table? n = some t →
          let looks := fun (a : Nat) => (a ∉ u.lostList → w = u) ∧ (a ∈ u.lostList →
            w = u.answer .lost (match u.wordName a with | some x => .lostWord x.1 x.2 | none => .none))
          (∀ o count k values, e.request = .read n o count → e.progress = .serving (.read k values) →
            looks (t.base + o + values.length))
          ∧ (∀ o mask value, e.request = .writeMasked n o mask value → e.progress = .serving .masked →
            looks (t.base + o))
          ∧ (∀ done, e.progress = .serving (.write done) ∨ e.progress = .serving (.fill done) → w = u))
        ∧ (r = .cycle → u.close = none → w = u)
        ∧ (∀ c, r = .cycle → u.close = some c →
          let ended := ({ u.withdraw .cycle with close := none } : State)
          (c.pass = .check →
            (u.lostList = [] → u.unsettledTables = [] → w = u)
            ∧ (c.origin = .lane →
              (u.lostList ≠ [] → w = ended.answer .lost (.lostList u.lostNames))
              ∧ (u.lostList = [] → u.unsettledTables ≠ [] → w = ended.answer .unsettled (.tables u.unsettledTables)))
            ∧ (c.origin = .mark → u.lostList ≠ [] ∨ u.unsettledTables ≠ [] → ∀ v, failed v))
          ∧ (c.pass = .copy →
            ((u.closeWord c).isSome = true → w = u)
            ∧ (u.closeWord c = none → c.copyFailed = false → w = u.completeClose c)
            ∧ (u.closeWord c = none → c.copyFailed = true →
              (c.origin = .lane → w = ended.answer .lost (.lostList u.lostNames))
              ∧ (c.origin = .mark → ∀ v, failed v))))
        ∧ (∀ v, r = .joiner → u.receive = some v →
          (v.phase ≠ .applying → w = u)
          ∧ ∀ m n o x t, v.phase = .applying → v.frame = some m → frameWord m = some (n, o, x) → u.table? n = some t →
            (t.base + o ∉ u.lostList → w = u)
            ∧ (t.base + o ∈ u.lostList → failed v))
        ∧ (∀ t b x, r = .donor → u.transfer = some t → t.block = some b → b.complete = false →
          u.table? b.table = some x →
          let a := x.base + b.first + b.values.length
          (a ∉ u.lostList → w = u)
          ∧ (a ∈ u.lostList → w.transfer = none ∧ SameImage u w ∧ w.log = u.log
            ∧ ((u.port t.port).send = [] → (w.port t.port).send = [⟨.transferAbort .sourceLost, false⟩])))
        ∧ (∀ v n t, r = .verify → u.verify = some v → v.walk[v.index]? = some n → u.table? n = some t →
          (t.base + v.cursor ∉ u.lostList → w = u)
          ∧ (t.base + v.cursor ∈ u.lostList →
            w = ({ u.setLoss .verify .idle with verify := some { v with skip := true } } : State).endVerifyTable))))

/-! ### Comparison and vote -/

/-- With three lanes expected and present: all equal, AGREED; the part alone differing, SELF EXCLUDED (DIFFERS); one
peer X differing, OTHER EXCLUDED, lane X (DIFFERS); all different, HALTED (DIFFERS). With one peer absent: equal,
OTHER EXCLUDED, the absent lane (ABSENT); different, HALTED (DIFFERS). With both absent, SELF EXCLUDED (ISOLATED).
With two expected: equal, AGREED; different, HALTED (DIFFERS); the peer absent, SELF EXCLUDED (ISOLATED). With one
expected, SELF EXCLUDED (ISOLATED). (R125, R126) -/
def Obligations.VoteTablesDecideOutcome : Prop :=
  ∀ (own d e : List DigestEntry) (x y : Lane),
    (d = own → e = own → voteResult own (some (x, some d)) (some (y, some e)) = (.agreed, none))
    ∧ (d = e → d ≠ own → voteResult own (some (x, some d)) (some (y, some e)) = (.selfExcluded, some .differs))
    ∧ (d = own → e ≠ own → voteResult own (some (x, some d)) (some (y, some e)) = (.otherExcluded y, some .differs))
    ∧ (e = own → d ≠ own → voteResult own (some (x, some d)) (some (y, some e)) = (.otherExcluded x, some .differs))
    ∧ (d ≠ own → e ≠ own → d ≠ e →
      voteResult own (some (x, some d)) (some (y, some e)) = (.halted, some .differs))
    ∧ (d = own → voteResult own (some (x, some d)) (some (y, none)) = (.otherExcluded y, some .absent)
      ∧ voteResult own (some (y, none)) (some (x, some d)) = (.otherExcluded y, some .absent))
    ∧ (d ≠ own → voteResult own (some (x, some d)) (some (y, none)) = (.halted, some .differs)
      ∧ voteResult own (some (y, none)) (some (x, some d)) = (.halted, some .differs))
    ∧ voteResult own (some (x, none)) (some (y, none)) = (.selfExcluded, some .isolated)
    ∧ (d = own → voteResult own (some (x, some d)) none = (.agreed, none)
      ∧ voteResult own none (some (x, some d)) = (.agreed, none))
    ∧ (d ≠ own → voteResult own (some (x, some d)) none = (.halted, some .differs)
      ∧ voteResult own none (some (x, some d)) = (.halted, some .differs))
    ∧ voteResult own (some (x, none)) none = (.selfExcluded, some .isolated)
    ∧ voteResult own none (some (x, none)) = (.selfExcluded, some .isolated)
    ∧ voteResult own none none = (.selfExcluded, some .isolated)

/-- At the expiry in ACTIVE the vote record is gone, the last voted cycle is its cycle, a slot with a notice for it is
empty, and the image stands. A peer counts when its record is ACTIVE from that cycle or earlier, and is present when
its slot holds a notice for it. On AGREED the part stays ACTIVE, confirmed, its standings standing. On OTHER EXCLUDED
of X, while two lanes stay ACTIVE, the record of X is EXCLUDED with source VOTE and the part stays ACTIVE, confirmed.
On SELF EXCLUDED the part is EXCLUDED or HALTED, on HALTED it is HALTED, in both not confirmed with the pin low.
HEALTHY_WAVE_HALF turns the pin while LANE-HEALTHY is asserted. An expiry without a record, and a half wave while it
is not asserted, have no effect (the model's choice, log 2). A part just confirmed begins with the pin high. (R119,
R123, R127, R135, R137, R191) -/
def Obligations.VoteExpiryAppliesOutcome : Prop :=
  (∀ (s : State) v, s.vote = some v → s.part = .active → ∃ u : State,
    exec .voteTimerExpiry s = .next u.settle
    ∧ SameImage s u ∧ u.vote = none ∧ u.lastVoted = v.cycle
    ∧ (∀ p x, u.slot p = some x → s.slot p = some x ∧ x.cycle ≠ v.cycle)
    ∧ let outcome := (voteResult v.digests (s.ballot v.cycle .x1) (s.ballot v.cycle .x2)).1
      (outcome = .agreed → 2 ≤ s.standings.activeCount →
        u.part = .active ∧ u.confirmed = true ∧ u.standings = s.standings
        ∧ (s.confirmed = false → u.healthyPin = true))
      ∧ (∀ x, outcome = .otherExcluded x →
        2 ≤ (s.standings.set x ⟨.excluded, none, some .vote⟩).activeCount →
        u.part = .active ∧ u.confirmed = true ∧ u.standings = s.standings.set x ⟨.excluded, none, some .vote⟩)
      ∧ (outcome = .selfExcluded → (u.part = .excluded ∨ u.part = .halted) ∧ u.confirmed = false
        ∧ u.healthyPin = false ∧ u.transfer = none)
      ∧ (outcome = .halted → u.part = .halted ∧ u.confirmed = false ∧ u.healthyPin = false ∧ u.transfer = none))
    ∧ (∀ (s : State) n p l m, s.peer p = some l →
      ((s.standings.get l).standing = .active → (s.standings.get l).activeFrom = some m →
        (m = n ∨ (1 ≤ (n - m).toNat ∧ (n - m).toNat ≤ 2147483647) →
          (∀ x, s.slot p = some x → x.cycle = n → s.ballot n p = some (l, some x.digests))
          ∧ ((∀ x, s.slot p = some x → x.cycle ≠ n) → s.ballot n p = some (l, none)))
        ∧ (m ≠ n → (n - m).toNat = 0 ∨ 2147483647 < (n - m).toNat → s.ballot n p = none))
      ∧ ((s.standings.get l).standing ≠ .active → s.ballot n p = none))
    ∧ (∀ s : State, s.vote = none → exec .voteTimerExpiry s = .next s)
    ∧ (∀ s : State, (s.part = .active → s.confirmed = true →
        exec .healthyWaveHalf s = .next { s with healthyPin := !s.healthyPin })
      ∧ (s.part ≠ .active ∨ s.confirmed = false → exec .healthyWaveHalf s = .next s))

/-- A STANDING NOTICE at the front of a port's control frames is taken: its slot is freed, with a control credit in
OPEN. The image stands and at most one STANDING CHANGE NOTICE is queued. At a part with a lane the sender's record
takes JOINING, EXCLUDED or HALTED from its self-report with source SELF REPORT, and ACTIVE only from UNKNOWN or
JOINING; the third lane's takes EXCLUDED or HALTED with source PEER REPORT only where the sender's record was ACTIVE;
an equal report changes nothing. Such an entry about the receiver takes an ACTIVE part out of ACTIVE and fails a
resynchronisation with EXCLUDED BY PEER. An ACTIVE part stays ACTIVE exactly if no such entry came and two lanes are
held ACTIVE; its open vote then stands, unless the changed records leave no expected peer missing: then it is decided
by its table and its outcome applied. Where an ACTIVE part serves, serving ends in the event if the record of the
joining lane is then ACTIVE (ACCEPTED) or EXCLUDED or HALTED (JOINER LEFT), before an exit of the part from ACTIVE,
which else ends it with DONOR LEFT and a TRANSFER ABORT of that reason (that order the model's choice, log 40); the
RESYNC NOTICE SERVING ENDED carries the reason and both counts and is the event's last notice, after its VOTE NOTICE
and STANDING CHANGE NOTICE (the model's reading, log 18); else the transfer stands. A part with no lane takes the
notice without effect (the model's reading, log 31). (R105, R119, R122, R123, R130, R131, R132, R133, R134, R154) -/
def Obligations.StandingNoticesApplyReportRules : Prop :=
  (∀ (s : State) (p : Port) l rest own, (s.port p).control = .standingNotice l :: rest → s.ownLane = some own →
      let z := peerOf own p
      let w := peerOf own (otherPort p)
      let good := s.standingOf z = .active
      let out := fun (e : StandingEntry) => e.standing = .excluded ∨ e.standing = .halted
      let told := fun (m : Lane) (e : StandingEntry) (from_ : Option Cycle) (src : Source) =>
        if (s.standings.get m).standing = e.standing ∧ (s.standings.get m).activeFrom = from_ then s.standings.get m
        else (⟨e.standing, from_, some src⟩ : StandingRecord)
      let sender := if (l.get z).standing = .joining ∨ out (l.get z) then told z (l.get z) none .selfReport
        else if (l.get z).standing = .active ∧ s.standingOf z ∈ [Standing.unknown, .joining] then
          ⟨.active, (l.get z).activeFrom, some .selfReport⟩
        else s.standings.get z
      let third := if good ∧ out (l.get w) then told w (l.get w) none .peerReport else s.standings.get w
      let reported := (s.standings.set z sender).set w third
      let excluded := good ∧ out (l.get own)
      let held := { s with standings := reported }
      let decided := fun (v : VoteRecord) => s.part = .active ∧ s.vote = some v ∧ reported ≠ s.standings ∧ ¬excluded
        ∧ 2 ≤ reported.activeCount
        ∧ notMissing (held.ballot v.cycle .x1) = true ∧ notMissing (held.ballot v.cycle .x2) = true
      let isChange := fun (n : Notice) => match n with | .standingChange _ _ _ => true | _ => false
      ∃ u : State, exec (.standingNotice p) s = .next u.settle
      ∧ SameImage s u
      ∧ (u.port p).control = rest
      ∧ (u.port p).pendingControl = (if (s.port p).rx = .opened
          then min 2 ((s.port p).pendingControl + 1) else (s.port p).pendingControl)
      ∧ u.notices.countP isChange ≤ s.notices.countP isChange + 1
      ∧ ((∀ v, ¬decided v) → u.standings.get z = sender ∧ u.standings.get w = third)
      ∧ (s.part = .active → excluded → (u.part = .excluded ∨ u.part = .halted) ∧ u.vote = none)
      ∧ (s.part = .active → 2 ≤ s.standings.activeCount → (∀ v, ¬decided v) →
        (u.part = .active ↔ ¬excluded ∧ 2 ≤ reported.activeCount)
        ∧ (u.part = .active → u.standings = reported ∧ u.vote = s.vote ∧ u.confirmed = s.confirmed))
      ∧ (∀ v, s.part = .receiving → s.receive = some v → v.phase ≠ .failing → excluded →
        (s.vitalTables ≠ [] → ∃ f, u.receive = some f ∧ f.phase = .failing ∧ f.failure = some .excludedByPeer)
        ∧ (s.vitalTables = [] → u.receive = none ∧ (u.part = .excluded ∨ u.part = .halted)))
      ∧ (∀ v, decided v →
        let outcome := (voteResult v.digests (held.ballot v.cycle .x1) (held.ballot v.cycle .x2)).1
        u.vote = none ∧ u.lastVoted = v.cycle
        ∧ (outcome = .agreed → u.part = .active ∧ u.confirmed = true ∧ u.standings = reported)
        ∧ (∀ x, outcome = .otherExcluded x → 2 ≤ (reported.set x ⟨.excluded, none, some .vote⟩).activeCount →
          u.part = .active ∧ u.confirmed = true ∧ u.standings = reported.set x ⟨.excluded, none, some .vote⟩)
        ∧ (outcome = .selfExcluded → u.part = .excluded ∨ u.part = .halted)
        ∧ (outcome = .halted → u.part = .halted))
      ∧ (∀ t, s.part = .active → s.transfer = some t →
        let ended := fun (why : ServingEnd) => u.transfer = none ∧ (s.notices.length < 14 →
          u.notices.getLast? = some (.resync (some t.lane) s.cycle (.servingEnded why t.wordsSent t.updatesSent)))
        (u.standingOf t.lane = .active → ended .accepted)
        ∧ (u.standingOf t.lane = .excluded ∨ u.standingOf t.lane = .halted → ended .joinerLeft)
        ∧ (u.standingOf t.lane = .unknown ∨ u.standingOf t.lane = .joining →
          (u.part = .active → u.transfer = some t)
          ∧ (u.part ≠ .active → ended .donorLeft
            ∧ (u.port t.port).send.getLast? = some ⟨.transferAbort .donorLeft, false⟩))))
    ∧ (∀ (s : State) (p : Port) l rest, (s.port p).control = .standingNotice l :: rest → s.ownLane = none →
      s.transfer = none → s.receive = none → exec (.standingNotice p) s = .next (s.freeControl p).settle)

/-- A DIGEST NOTICE for cycle n at the front of a port's control frames is taken from it, and its standing list is
applied. A FAULT NOTICE of STALE NOTICE is queued before the STANDING CHANGE NOTICE of that list (the model's choice,
log 18). After the list: outside ACTIVE, and where the peer's record is EXCLUDED or HALTED, the digests are discarded;
where n is not later than the last voted cycle STALE NOTICE is recorded with the peer and n; else the notice is placed
in the peer's slot, STALE NOTICE being recorded for one it displaces, and the vote is decided if every expected peer
is now present. (R121, R123) -/
def Obligations.DigestNoticesPlacedOrStale : Prop :=
  ∀ (s : State) (p : Port) n l ds rest y, (s.port p).control = .digestNotice n l ds :: rest → s.peer p = some y →
    let c := applyList (s.freeControl p) p l
    let stale := fun (u : State) (m : Cycle) =>
      u.logFault ⟨.staleNotice, m, none, none, none, some (some y), none, none⟩
    let put := c.1.setSlot p (some ⟨n, ds⟩)
    (c.1.part ≠ .active ∨ c.1.standingOf y ∈ [Standing.excluded, .halted] →
      exec (.digestNotice p) s = .next (closeStandings s.standings c).settle)
    ∧ (c.1.part = .active → c.1.standingOf y ∉ [Standing.excluded, .halted] →
      (later n c.1.lastVoted = false →
        exec (.digestNotice p) s = .next (closeStandings s.standings (stale c.1 n, c.2)).settle)
      ∧ (later n c.1.lastVoted = true →
        (c.1.slot p = none →
          exec (.digestNotice p) s = .next (closeStandings s.standings (tryDecide (put, c.2))).settle)
        ∧ (∀ old, c.1.slot p = some old →
          exec (.digestNotice p) s = .next (closeStandings s.standings (tryDecide (stale put old.cycle, c.2))).settle)))
    ∧ ((s.freeControl p).port p).control = rest

/-! ### Resynchronisation -/

/-- At the expiry of the join wait, and at a JOIN REFUSE from the current peer, the part asks the lowest-lettered
ACTIVE peer not asked in this join: a JOIN ASK with its directory, its STATIC pairs and its descriptor is queued on
that peer's port, and the wait starts again; with none left it leaves JOINING for EXCLUDED or HALTED without a join
record, and RESYNC FAILED names the last asked peer with reason NO DONOR, or with the refusal where a refusal led to
the choice. A JOIN GRANT from the current peer puts it into RECEIVING in APPLYING with an empty record of that donor
and the RESYNC NOTICE GRANTED. A grant from anyone else is answered with TRANSFER ABORT, RESET in CONFIG and STALL
else, and a refusal from anyone else has no effect. (R142, R143, R144, R145, R155) -/
def Obligations.JoiningPartAsksEachActivePeerOnce : Prop :=
  (∀ (s : State) (c : Instr) j l q s1 refusal, s.join = some j → j.phase = .asking →
    ((c = .joinWaitExpiry ∧ j.timer.isSome = true ∧ s1 = s ∧ refusal = j.refusal)
      ∨ ∃ p r rest cur, c = .joinRefuse p ∧ (s.port p).control = .joinRefuse r :: rest ∧ s.peer p = some cur
        ∧ j.current = some cur ∧ s1 = s.freeControl p ∧ refusal = some r) →
    s.standingOf l = .active → l ∉ j.asked → s.portOf l = some q →
    (∀ m, laneCode (some m) < laneCode (some l) →
      s.standingOf m ≠ .active ∨ m ∈ j.asked ∨ s.portOf m = none) →
    exec c s = .next
      (({ s1 with join := some ⟨j.ranges, j.descriptor, .asking, j.asked ++ [l], some l, some l,
          some s.timings.joinWait, refusal⟩ } : State).sendControl q
        (.joinAsk (s.tables.map fun t => ⟨t.number, t.kind, t.length⟩) (s.workingPairs fun k => k = .static)
          j.descriptor)).settle)
    ∧ (∀ (s : State) j, s.join = some j → j.phase = .asking → j.timer.isSome = true →
      (∀ m, s.standingOf m ≠ .active ∨ m ∈ j.asked ∨ s.portOf m = none) → s.part = .joining → ∃ u : State,
      exec .joinWaitExpiry s = .next u.settle
      ∧ u.join = none ∧ (u.part = .excluded ∨ u.part = .halted) ∧ SameImage s u
      ∧ ⟨.resyncFailed, s.cycle, none, none, none, j.last.map some, some (.resync .noDonor), none⟩ ∈ u.log)
    ∧ (∀ (s : State) j p r rest cur, s.join = some j → j.phase = .asking → (s.port p).control = .joinRefuse r :: rest →
      s.peer p = some cur → j.current = some cur →
      (∀ m, s.standingOf m ≠ .active ∨ m ∈ j.asked ∨ s.portOf m = none) → s.part = .joining → ∃ u : State,
      exec (.joinRefuse p) s = .next u.settle
      ∧ u.join = none ∧ (u.part = .excluded ∨ u.part = .halted) ∧ SameImage s u
      ∧ (u.port p).control = rest
      ∧ ⟨.resyncFailed, s.cycle, none, none, none, j.last.map some, some (.resync (.refused r)), none⟩ ∈ u.log)
    ∧ (∀ (s : State) p n rest, (s.port p).control = .joinGrant n :: rest →
      (∀ j l, s.join = some j → j.phase = .asking → s.peer p = some l → j.current = some l →
        exec (.joinGrant p) s = .next
          (({ s.freeControl p with
            part := .receiving, join := none
            receive := some ⟨l, p, j.ranges, .applying, none, some s.timings.stallTime, 0, 0, none, 0, 0⟩ } :
            State).notify (.resync (some l) n .granted)).settle)
      ∧ ((∀ j, s.join = some j → j.phase = .asking → j.current ≠ s.peer p ∨ s.peer p = none) →
        exec (.joinGrant p) s = .next
          ((s.freeControl p).sendControl p (.transferAbort (if s.part = .config then .reset else .stall))).settle))
    ∧ (∀ (s : State) p r rest, (s.port p).control = .joinRefuse r :: rest →
      (∀ j, s.join = some j → j.phase = .asking → j.current ≠ s.peer p ∨ s.peer p = none) →
      exec (.joinRefuse p) s = .next (s.freeControl p).settle)

/-- A JOIN ASK from the peer of a port is answered there with JOIN REFUSE: NOT ACTIVE outside ACTIVE, SERVING while a
transfer stands, DIRECTORY MISMATCH for another summary, STATIC MISMATCH for other STATIC pairs; nothing else changes.
Else the asker's record is JOINING and the image stands. While two lanes stay ACTIVE and no open vote can now be
decided, the transfer record is made: SENDING at the start of the expanded list (its first range that names a word:
the model's choice, log 29), not opened, with no block and an empty queue; the JOIN GRANT with the current cycle joins
the port's send queue; the part stays ACTIVE, its vote open. With fewer than two lanes left ACTIVE the part leaves
ACTIVE and serves nobody. An open vote that the asker's new record leaves without a missing lane is decided. In each
case the JOIN ASK is taken from the port and its slot freed, with a control credit in OPEN. A part with no lane takes
it without effect (the model's reading, log 31). (R123, R134, R139, R146, R147, R148) -/
def Obligations.DonorAnswersJoinAskInOrder : Prop :=
  ∀ (s : State) (p : Port) summary statics ranges rest l,
    (s.port p).control = .joinAsk summary statics ranges :: rest →
    (s.peer p = none → exec (.joinAsk p) s = .next (s.freeControl p).settle) ∧ (s.peer p = some l →
    let mine := s.tables.map fun t => (⟨t.number, t.kind, t.length⟩ : SummaryEntry)
    let pairs := s.workingPairs fun k => k = .static
    let refuse := fun r => exec (.joinAsk p) s = .next ((s.freeControl p).sendControl p (.joinRefuse r)).settle
    (s.part ≠ .active → refuse .notActive)
    ∧ (s.part = .active →
      (s.transfer.isSome = true → refuse .serving)
      ∧ (s.transfer = none →
        (summary ≠ mine → refuse .directoryMismatch)
        ∧ (summary = mine →
          (statics ≠ pairs → refuse .staticMismatch)
          ∧ (statics = pairs →
            let joined := if s.standingOf l = .joining then s.standings
              else s.standings.set l ⟨.joining, none, some .selfReport⟩
            let held := { s with standings := joined }
            let decided := fun (v : VoteRecord) => s.vote = some v ∧ joined ≠ s.standings ∧ 2 ≤ joined.activeCount
              ∧ notMissing (held.ballot v.cycle .x1) = true ∧ notMissing (held.ballot v.cycle .x2) = true
            ∃ u : State, exec (.joinAsk p) s = .next u.settle ∧ SameImage s u
            ∧ (u.port p).control = rest
            ∧ (u.port p).pendingControl = (if (s.port p).rx = .opened
                then min 2 ((s.port p).pendingControl + 1) else (s.port p).pendingControl)
            ∧ ((∀ v, ¬decided v) → 2 ≤ joined.activeCount →
              let list := if ranges = [] then
                (s.tablesOf fun k => k ≠ .static).map fun t => (⟨t.number, 0, t.length⟩ : Range) else ranges
              u.part = .active ∧ u.standings = joined ∧ u.vote = s.vote
              ∧ u.transfer = some ⟨l, p, list, s.cursorFrom list 0, 0, .sending, false, false, none, [], 0, 0⟩
              ∧ (u.port p).send = (if (s.port p).send.length < 8 then (s.port p).send else (s.port p).send.tail)
                  ++ [⟨.joinGrant s.cycle, true⟩])
            ∧ (joined ≠ s.standings → joined.activeCount < 2 →
              (u.part = .excluded ∨ u.part = .halted) ∧ u.transfer = none ∧ u.vote = none)
            ∧ (∀ v, decided v → u.vote = none ∧ u.lastVoted = v.cycle))))))

/-- A TRANSFER ABORT taken on the serving port ends serving with JOINER ABORT; taken on the donor's port of a
receiving part not yet failing it fails the resynchronisation with DONOR ABORT; else it only frees its slot. The stall
timer of a blocked transfer (not opened, starved, or awaiting the verdict) ends serving with TRANSFER ABANDONED and,
but in the last case, a TRANSFER ABORT of reason LINK; that of a receiving part in APPLYING fails the
resynchronisation with STALL. A failure leaves the part in FAILING without a frame or a close of a mark, where a VITAL
table is there to be filled, and else out of RECEIVING. The image stands. An expiry for a transfer that is not
blocked, or for a stopped receive timer, has no effect (the model's choice, log 2). (R145, R153, R154, R160, R161,
R162) -/
def Obligations.ServingAndReceivingEndOnAbortOrStall : Prop :=
  (∀ (s : State) p r rest, (s.port p).control = .transferAbort r :: rest →
    (∀ t, s.transfer = some t → t.port = p → ∃ u : State, exec (.transferAbort p) s = .next u.settle
      ∧ u.transfer = none ∧ u.part = s.part ∧ u.standings = s.standings ∧ SameImage s u
      ∧ u.log = s.log ∧ u.receive = s.receive
      ∧ (s.notices.length < 16 →
        u.notices = s.notices ++ [.resync (some t.lane) s.cycle (.servingEnded (.joinerAbort r) t.wordsSent t.updatesSent)]))
    ∧ (∀ v, s.transfer = none → s.receive = some v → v.port = p → v.phase ≠ .failing → ∃ u : State,
      exec (.transferAbort p) s = .next u.settle ∧ SameImage s u ∧ u.close = none
      ∧ (s.vitalTables ≠ [] → u.part = s.part ∧ ∃ f, u.receive = some f ∧ f.phase = .failing ∧ f.frame = none
        ∧ f.failure = some (.donorAbort r) ∧ f.stall = none ∧ f.fillTable = 0 ∧ f.fillOffset = 0)
      ∧ (s.vitalTables = [] → u.receive = none ∧ (u.part = .excluded ∨ u.part = .halted)))
    ∧ ((∀ t, s.transfer = some t → t.port ≠ p) → (∀ v, s.receive = some v → v.port ≠ p ∨ v.phase = .failing) →
      exec (.transferAbort p) s = .next (s.freeControl p).settle))
    ∧ (∀ (s : State) t, s.transfer = some t →
      let starved := (s.port t.port).outstandingBulk ≥ 6
        ∧ ((∃ b, t.block = some b ∧ b.complete = true) ∨ (t.block = none ∧ t.queue ≠ []))
      (t.opened = false ∨ starved ∨ t.phase = .awaitingVerdict → ∃ u : State,
        exec .donorStallExpiry s = .next u.settle
        ∧ u.transfer = none ∧ u.part = s.part ∧ u.standings = s.standings ∧ SameImage s u
        ∧ ⟨.transferAbandoned, s.cycle, none, none, none, some (some t.lane), none, none⟩ ∈ u.log
        ∧ (t.phase ≠ .awaitingVerdict → (s.port t.port).send = [] →
          (u.port t.port).send = [⟨.transferAbort .link, false⟩])
        ∧ (t.phase = .awaitingVerdict → (u.port t.port).send.length = (s.port t.port).send.length))
      ∧ (t.opened = true → ¬starved → t.phase ≠ .awaitingVerdict → exec .donorStallExpiry s = .next s))
    ∧ (∀ (s : State) v, s.receive = some v →
      (v.phase = .applying → v.stall.isSome = true → ∃ u : State,
        exec .receiveStallExpiry s = .next u.settle ∧ SameImage s u
        ∧ (s.vitalTables ≠ [] → u.part = s.part ∧ ∃ f, u.receive = some f ∧ f.phase = .failing
          ∧ f.failure = some .stall ∧ f.stall = none)
        ∧ (s.vitalTables = [] → u.receive = none ∧ (u.part = .excluded ∨ u.part = .halted)))
      ∧ (v.phase ≠ .applying ∨ v.stall = none → exec .receiveStallExpiry s = .next s))

/-- At its granted read a word that reads is appended to the block in assembly. Where the range names the next word
too, the cursor goes on to it and the block is complete exactly at 32 words; else the block is complete and the cursor
stands at the start of the next range, a range that names no word being passed over (the model's choice, log 29), or
past the last. An uncorrectable word starts the loss decision. A lost next word ends serving with SOURCE LOST and
makes no read. Nothing else changes before the transmitters begin. (R149, R150) -/
def Obligations.DonorReadsBlocksFromCursor : Prop :=
  (∀ (s : State) (g : Grant) t b u, s.transfer = some t → t.block = some b → b.complete = false →
      s.table? b.table = some u →
      let a := u.base + b.first + b.values.length
      (s.looksLost .donor = true → ∃ x : State, exec (.donorBlockRead g) s = .next x.settle
        ∧ x.transfer = none ∧ SameImage s x ∧ x.log = s.log
        ∧ ((s.port t.port).send = [] → (x.port t.port).send = [⟨.transferAbort .sourceLost, false⟩]))
      ∧ ∀ s1, s.looksLost .donor = false → s.grantWork g .donor .donorRead = some s1 →
        (∀ s2, s1.readWord a g.upset = (s2, none) →
          exec (.donorBlockRead g) s = .next ((s2.meetLoss .donor a).settleLoss .donor).settle)
        ∧ ∀ s2 v r, s1.readWord a g.upset = (s2, some v) → t.ranges[t.cursorRange]? = some r →
          let values := b.values ++ [v]
          let named := t.cursorOffset + 1 < r.count ∧ ∃ x, s.table? r.table = some x ∧ r.first + t.cursorOffset + 1 < x.length
          (named → exec (.donorBlockRead g) s = .next (s2.setTransfer
            { t with
              cursorOffset := t.cursorOffset + 1
              block := some { b with values, complete := decide (32 ≤ values.length) } }).settle)
          ∧ (¬named → exec (.donorBlockRead g) s = .next (s2.setTransfer
            { t with
              cursorRange := s.cursorFrom t.ranges (t.cursorRange + 1), cursorOffset := 0
              block := some { b with values, complete := true } }).settle))
    ∧ (∀ (s : State) (ranges : List Range) i,
      let names := fun (r : Range) => 0 < r.count ∧ ∃ x, s.table? r.table = some x ∧ r.first < x.length
      let c := s.cursorFrom ranges i
      i ≤ c ∧ (i ≤ ranges.length → c ≤ ranges.length)
      ∧ (∀ k r, i ≤ k → k < c → ranges[k]? = some r → ¬names r) ∧ (∀ r, ranges[c]? = some r → names r)
      ∧ (∀ r, ranges[i]? = some r → names r → c = i))

/-- In APPLYING with no frame in processing, the oldest bulk frame of the donor's port is taken and the stall timer
restarts. A block or update whose words all lie in a table that is not STATIC, within its length and within the range
list, is in processing at its first word. A CLOSE MARK for n, final only with the table numbers of the part, makes the
phase CLOSING and, with a word to cover and nothing lost or unsettled, opens a close of origin MARK for n in its check
pass, FULL where WIDE is set or checkpoint-valid is false; with no word to cover that close completes at once; with a
word lost or a table unsettled the resynchronisation fails with LOCAL FAULT. Any other frame fails the
resynchronisation with MISMATCH. (R60, R62, R156, R158, R161, R162) -/
def Obligations.ReceivedFramesCheckedWhenTaken : Prop :=
  ∀ (s : State) v m rest, s.receive = some v → v.phase = .applying → v.frame = none →
    (s.port v.port).bulk = m :: rest →
    let held := { v with frame := some (m, 0), stall := some s.timings.stallTime }
    let taken := (s.setPort v.port { s.port v.port with bulk := rest }).setReceive held
    let fits := fun (n first count : Nat) => ∃ t, s.table? n = some t ∧ t.kind ≠ .static ∧ first + count ≤ t.length
      ∧ ∀ i, i < count → ∃ r ∈ v.ranges, r.table = n ∧ r.first ≤ first + i ∧ first + i < r.first + r.count
    let usable := match m with
      | .imageBlock n first values => fits n first values.length
      | .update n o _ => fits n o 1
      | .closeMark _ none => True
      | .closeMark _ (some ds) => ds.map (·.table) = (s.tablesOf fun k => k ≠ .localKind).map (·.number)
    (usable → (∀ n f, m ≠ .closeMark n f) → exec .bulkFrameTake s = .next taken.settle)
    ∧ (∀ n f, usable → m = .closeMark n f → s.lostList = [] → (∀ t ∈ s.tables, t.unsettled = false) →
      let closing := taken.setReceive { held with phase := .closing, stall := none }
      (s.wide = true ∨ s.checkpointValid = false → 0 < s.totalLength → s.transfer = none →
        exec .bulkFrameTake s = .next
          (closing.setClose ⟨.mark, n, .full, 0, .check, 0, false, false, .none, none, false⟩).settle)
      ∧ (s.wide = false → s.checkpointValid = true → s.changeList ≠ [] → s.transfer = none →
        exec .bulkFrameTake s = .next
          (closing.setClose ⟨.mark, n, .partialKind, s.changeList.length, .check, 0, false, false, .none, none,
            false⟩).settle)
      ∧ (∀ kind, (kind = .full ∧ (s.wide = true ∨ s.checkpointValid = false) ∧ s.totalLength = 0
          ∨ kind = .partialKind ∧ s.wide = false ∧ s.checkpointValid = true ∧ s.changeList = []) → s.transfer = none →
        exec .bulkFrameTake s = .next
          (closing.completeClose ⟨.mark, n, kind, 0, .check, 0, false, false, .none, none, false⟩).settle))
    ∧ (∀ n f, usable → m = .closeMark n f → s.lostList ≠ [] ∨ (∃ t ∈ s.tables, t.unsettled = true) → ∃ u : State,
      exec .bulkFrameTake s = .next u.settle ∧ SameImage s u ∧ u.close = none
      ∧ (s.vitalTables ≠ [] → ∃ f, u.receive = some f ∧ f.phase = .failing ∧ f.failure = some .localFault)
      ∧ (s.vitalTables = [] → u.receive = none ∧ (u.part = .excluded ∨ u.part = .halted)))
    ∧ (¬usable → ∃ u : State, exec .bulkFrameTake s = .next u.settle ∧ SameImage s u
      ∧ (s.vitalTables ≠ [] → ∃ f, u.receive = some f ∧ f.phase = .failing ∧ f.failure = some .mismatch))

/-- The merge takes, at each of the 16 places, the rule's bit at the number 2 times the peer's bit plus the local bit.
At a granted write of the next word of the frame in processing, a known old word o is changed to the peer's value in a
VITAL table and to the merge in a LOCAL one, a lost word to the peer's value with unknown old value; the word is
counted, and the frame goes on or ends and frees its slot, with a bulk credit in OPEN and without one else. At a
granted write of the failure fill the word takes the safe value, and the fill goes on through the VITAL tables in
ascending number; after its last word the part is EXCLUDED or HALTED without a receive record. An uncorrectable read
changes nothing and starts the loss decision. (R17, R105, R112, R157, R162) -/
def Obligations.ReceivedWordsMergedAndFillSafe : Prop :=
  (∀ (rule : BitVec 4) (peer loc : Word) i, i < 16 →
    (mergeWord rule peer loc).getLsbD i = rule.getLsbD (2 * (peer.getLsbD i).toNat + (loc.getLsbD i).toNat))
    ∧ (∀ (s : State) (g : Grant) v m pos n o x t s1, s.receive = some v → v.frame = some (m, pos) →
      frameWord (m, pos) = some (n, o, x) → s.table? n = some t → s.grantWork g .joiner .resyncWrite = some s1 →
      let a := t.base + o
      let new := fun (old : Word) => if t.kind = .localKind then mergeWord t.merge x old else x
      (a ∈ s1.lostList → exec (.resyncWrite g) s = .next (s1.changeWord a none x).wordApplied.settle)
      ∧ (∀ s2 old, a ∉ s1.lostList → s1.readWord a g.upset = (s2, some old) →
        exec (.resyncWrite g) s = .next (s2.changeWord a (some old) (new old)).wordApplied.settle)
      ∧ (∀ s2, a ∉ s1.lostList → s1.readWord a g.upset = (s2, none) →
        exec (.resyncWrite g) s = .next ((s2.meetLoss .joiner a).settleLoss .joiner).settle))
    ∧ (∀ (s : State) v m pos, s.receive = some v → v.frame = some (m, pos) →
      let counted := { v with applied := min 65535 (v.applied + 1), frame := some (m, pos + 1) }
      ((frameWord (m, pos + 1)).isSome = true → s.wordApplied = s.setReceive counted)
      ∧ (frameWord (m, pos + 1) = none → (s.port v.port).rx = .opened →
        s.wordApplied = (s.setPort v.port { s.port v.port with
          pendingBulk := min 6 ((s.port v.port).pendingBulk + 1) }).setReceive { counted with frame := none })
      ∧ (frameWord (m, pos + 1) = none → (s.port v.port).rx ≠ .opened →
        s.wordApplied = s.setReceive { counted with frame := none }))
    ∧ (∀ (s : State) (g : Grant) v t s1, s.receive = some v → s.vitalTables[v.fillTable]? = some t →
      s.grantWork g .joiner .failureFill = some s1 →
      let a := t.base + v.fillOffset
      (a ∈ s1.lostList → exec (.failureFillWrite g) s = .next (s1.changeWord a none t.safe).fillAdvance.settle)
      ∧ (∀ s2 old, a ∉ s1.lostList → s1.readWord a g.upset = (s2, some old) →
        exec (.failureFillWrite g) s = .next (s2.changeWord a (some old) t.safe).fillAdvance.settle)
      ∧ (∀ s2, a ∉ s1.lostList → s1.readWord a g.upset = (s2, none) →
        exec (.failureFillWrite g) s = .next ((s2.meetLoss .joiner a).settleLoss .joiner).settle))
    ∧ (∀ (s : State) v t, s.receive = some v → s.vitalTables[v.fillTable]? = some t →
      (v.fillOffset + 1 < t.length → s.fillAdvance = s.setReceive { v with fillOffset := v.fillOffset + 1 })
      ∧ (t.length ≤ v.fillOffset + 1 → v.fillTable + 1 < s.vitalTables.length →
        s.fillAdvance = s.setReceive { v with fillTable := v.fillTable + 1, fillOffset := 0 })
      ∧ (t.length ≤ v.fillOffset + 1 → s.vitalTables.length ≤ v.fillTable + 1 →
        s.fillAdvance.receive = none ∧ (s.fillAdvance.part = .excluded ∨ s.fillAdvance.part = .halted)
        ∧ SameImage s s.fillAdvance))

/-! ### Invariants -/

/-- In every state where the store is in its canonical form and the directory invariant holds (table numbers to 31 and
distinct, lengths 1 to 4096, each base where the table before ends, a total to 32768, merge rule 12 but for LOCAL
tables, every pair, partial sum and accumulator below 65521), a step leaves a state where they hold. (R11, R12, R13,
R17, R19) -/
def Obligations.StoreAndDirectoryKept : Prop :=
  ∀ s t : State, s.store.wf = true → DirectoryInv s → step s = .next t → t.store.wf = true ∧ DirectoryInv t

/-- In every state with the directory invariant where the lost list holds at most 8 addresses and the change list at
most 1024, each once, WIDE is set only beside a full change list, every lost address lies in a defined table that is
unsettled and is in the change list unless WIDE is set, and nothing is lost in INIT and CONFIG, a step leaves a state
where this holds. (R34, R36, R50, R53) -/
def Obligations.ChangeAndLostListsKept : Prop :=
  ∀ s t : State, DirectoryInv s → ListsInv s → step s = .next t → ListsInv t

/-- In every state where a join record goes with JOINING, a receive record with RECEIVING, and a transfer, a vote
record, a held notice and the confirmed flag only with ACTIVE, the HEALTHY pin is high only while confirmed, the full
copy goes with STARTING, the own record mirrors the part state, and an ACTIVE part holds at least two lanes ACTIVE, a
step leaves a state where this holds. In every such state where in addition a rollback or a close of origin LANE goes
with its request in service in ACTIVE, EXCLUDED or HALTED, and a close of origin MARK with a resynchronisation in the
phase CLOSING, a step leaves a state where this holds too, and while a rollback is in flight there is no close and no
receive record. (R54, R62, R66, R117, R118, R119, R134, R137, R141, R147, R155, R178) -/
def Obligations.PartStateAndUnitRecordsKept : Prop :=
  (∀ s t : State, ModesInv s → step s = .next t → ModesInv t)
    ∧ (∀ s t : State, ModesInv s → FlightInv s → step s = .next t → FlightInv t)
    ∧ (∀ s : State, ModesInv s → FlightInv s → s.rollback.isSome = true → s.close = none ∧ s.receive = none)

/-- In every state where each port holds at most 2 control frames and 6 bulk frames, the one in processing counted, at
most 2 and 6 pending credits and outstanding frames and 8 queued control frames, the lane queues hold at most 4, 4 and
16, the outbound bulk queue 64, the log 16, and the counters and cursors stay in their ranges, a step leaves a state
where this holds. (R84, R105, R108, R109, R151, R168, R169, R178, R179, R180) -/
def Obligations.QueuesAndCreditsKept : Prop :=
  ∀ s t : State, QueuesInv s → step s = .next t → QueuesInv t

/-- The state after reset (strapped as lane A, the model's choice, log 9; nothing listed in the store, log 8) has its
store in canonical form and meets the invariants of the directory, of the lists, of the part state, of what is in
flight and of the queues. (R182, R71, R117) -/
def Obligations.ResetMeetsEveryInvariant : Prop :=
  State.reset.store.wf = true ∧ DirectoryInv State.reset ∧ ListsInv State.reset ∧ ModesInv State.reset
    ∧ FlightInv State.reset ∧ QueuesInv State.reset
end

