-- ==== Sys2Proof/Laws/State.lean ====
section
/-! SUPPORT. What each plain update of the state does to each field, and what it leaves: one lemma per field per
update, true by unfolding. -/

namespace Sys2Proof.Machine
open Sys2Proof

variable (s : State)

/-! ### writeWord -/

@[simp] theorem State.writeWord_part (a : Nat) (v : Word) : (s.writeWord a v).part = s.part := rfl
@[simp] theorem State.writeWord_strap (a : Nat) (v : Word) : (s.writeWord a v).strap = s.strap := rfl
@[simp] theorem State.writeWord_installation (a : Nat) (v : Word) : (s.writeWord a v).installation = s.installation := rfl
@[simp] theorem State.writeWord_timings (a : Nat) (v : Word) : (s.writeWord a v).timings = s.timings := rfl
@[simp] theorem State.writeWord_store (a : Nat) (v : Word) : (s.writeWord a v).store = s.store.set a (.fresh v) := rfl
@[simp] theorem State.writeWord_clearNext (a : Nat) (v : Word) : (s.writeWord a v).clearNext = s.clearNext := rfl
@[simp] theorem State.writeWord_storeGrant (a : Nat) (v : Word) : (s.writeWord a v).storeGrant = s.storeGrant := rfl
@[simp] theorem State.writeWord_waiting (a : Nat) (v : Word) : (s.writeWord a v).waiting = s.waiting := rfl
@[simp] theorem State.writeWord_loss (a : Nat) (v : Word) : (s.writeWord a v).loss = s.loss := rfl
@[simp] theorem State.writeWord_tables (a : Nat) (v : Word) : (s.writeWord a v).tables = s.tables := rfl
@[simp] theorem State.writeWord_establish (a : Nat) (v : Word) : (s.writeWord a v).establish = s.establish := rfl
@[simp] theorem State.writeWord_fullCopy (a : Nat) (v : Word) : (s.writeWord a v).fullCopy = s.fullCopy := rfl
@[simp] theorem State.writeWord_cycle (a : Nat) (v : Word) : (s.writeWord a v).cycle = s.cycle := rfl
@[simp] theorem State.writeWord_changeList (a : Nat) (v : Word) : (s.writeWord a v).changeList = s.changeList := rfl
@[simp] theorem State.writeWord_wide (a : Nat) (v : Word) : (s.writeWord a v).wide = s.wide := rfl
@[simp] theorem State.writeWord_checkpointValid (a : Nat) (v : Word) : (s.writeWord a v).checkpointValid = s.checkpointValid := rfl
@[simp] theorem State.writeWord_lostList (a : Nat) (v : Word) : (s.writeWord a v).lostList = s.lostList := rfl
@[simp] theorem State.writeWord_close (a : Nat) (v : Word) : (s.writeWord a v).close = s.close := rfl
@[simp] theorem State.writeWord_rollback (a : Nat) (v : Word) : (s.writeWord a v).rollback = s.rollback := rfl
@[simp] theorem State.writeWord_scrubCursor (a : Nat) (v : Word) : (s.writeWord a v).scrubCursor = s.scrubCursor := rfl
@[simp] theorem State.writeWord_scrubPasses (a : Nat) (v : Word) : (s.writeWord a v).scrubPasses = s.scrubPasses := rfl
@[simp] theorem State.writeWord_scrubLag (a : Nat) (v : Word) : (s.writeWord a v).scrubLag = s.scrubLag := rfl
@[simp] theorem State.writeWord_pace (a : Nat) (v : Word) : (s.writeWord a v).pace = s.pace := rfl
@[simp] theorem State.writeWord_verify (a : Nat) (v : Word) : (s.writeWord a v).verify = s.verify := rfl
@[simp] theorem State.writeWord_kept (a : Nat) (v : Word) : (s.writeWord a v).kept = s.kept := rfl
@[simp] theorem State.writeWord_autoCount (a : Nat) (v : Word) : (s.writeWord a v).autoCount = s.autoCount := rfl
@[simp] theorem State.writeWord_standings (a : Nat) (v : Word) : (s.writeWord a v).standings = s.standings := rfl
@[simp] theorem State.writeWord_slotX1 (a : Nat) (v : Word) : (s.writeWord a v).slotX1 = s.slotX1 := rfl
@[simp] theorem State.writeWord_slotX2 (a : Nat) (v : Word) : (s.writeWord a v).slotX2 = s.slotX2 := rfl
@[simp] theorem State.writeWord_vote (a : Nat) (v : Word) : (s.writeWord a v).vote = s.vote := rfl
@[simp] theorem State.writeWord_lastVoted (a : Nat) (v : Word) : (s.writeWord a v).lastVoted = s.lastVoted := rfl
@[simp] theorem State.writeWord_confirmed (a : Nat) (v : Word) : (s.writeWord a v).confirmed = s.confirmed := rfl
@[simp] theorem State.writeWord_healthyPin (a : Nat) (v : Word) : (s.writeWord a v).healthyPin = s.healthyPin := rfl
@[simp] theorem State.writeWord_join (a : Nat) (v : Word) : (s.writeWord a v).join = s.join := rfl
@[simp] theorem State.writeWord_receive (a : Nat) (v : Word) : (s.writeWord a v).receive = s.receive := rfl
@[simp] theorem State.writeWord_transfer (a : Nat) (v : Word) : (s.writeWord a v).transfer = s.transfer := rfl
@[simp] theorem State.writeWord_x1 (a : Nat) (v : Word) : (s.writeWord a v).x1 = s.x1 := rfl
@[simp] theorem State.writeWord_x2 (a : Nat) (v : Word) : (s.writeWord a v).x2 = s.x2 := rfl
@[simp] theorem State.writeWord_laneInside (a : Nat) (v : Word) : (s.writeWord a v).laneInside = s.laneInside := rfl
@[simp] theorem State.writeWord_requests (a : Nat) (v : Word) : (s.writeWord a v).requests = s.requests := rfl
@[simp] theorem State.writeWord_immediate (a : Nat) (v : Word) : (s.writeWord a v).immediate = s.immediate := rfl
@[simp] theorem State.writeWord_notices (a : Nat) (v : Word) : (s.writeWord a v).notices = s.notices := rfl
@[simp] theorem State.writeWord_noticeDrops (a : Nat) (v : Word) : (s.writeWord a v).noticeDrops = s.noticeDrops := rfl
@[simp] theorem State.writeWord_replyDrops (a : Nat) (v : Word) : (s.writeWord a v).replyDrops = s.replyDrops := rfl
@[simp] theorem State.writeWord_laneTx (a : Nat) (v : Word) : (s.writeWord a v).laneTx = s.laneTx := rfl
@[simp] theorem State.writeWord_counters (a : Nat) (v : Word) : (s.writeWord a v).counters = s.counters := rfl
@[simp] theorem State.writeWord_masks (a : Nat) (v : Word) : (s.writeWord a v).masks = s.masks := rfl
@[simp] theorem State.writeWord_log (a : Nat) (v : Word) : (s.writeWord a v).log = s.log := rfl
@[simp] theorem State.writeWord_overrun (a : Nat) (v : Word) : (s.writeWord a v).overrun = s.overrun := rfl
@[simp] theorem State.writeWord_first (a : Nat) (v : Word) : (s.writeWord a v).first = s.first := rfl
@[simp] theorem State.writeWord_pending (a : Nat) (v : Word) : (s.writeWord a v).pending = s.pending := rfl

/-! ### setLoss -/

@[simp] theorem State.setLoss_part (r : Requester) (l : Loss) : (s.setLoss r l).part = s.part := rfl
@[simp] theorem State.setLoss_strap (r : Requester) (l : Loss) : (s.setLoss r l).strap = s.strap := rfl
@[simp] theorem State.setLoss_installation (r : Requester) (l : Loss) : (s.setLoss r l).installation = s.installation := rfl
@[simp] theorem State.setLoss_timings (r : Requester) (l : Loss) : (s.setLoss r l).timings = s.timings := rfl
@[simp] theorem State.setLoss_store (r : Requester) (l : Loss) : (s.setLoss r l).store = s.store := rfl
@[simp] theorem State.setLoss_clearNext (r : Requester) (l : Loss) : (s.setLoss r l).clearNext = s.clearNext := rfl
@[simp] theorem State.setLoss_storeGrant (r : Requester) (l : Loss) : (s.setLoss r l).storeGrant = s.storeGrant := rfl
@[simp] theorem State.setLoss_waiting (r : Requester) (l : Loss) : (s.setLoss r l).waiting = s.waiting := rfl
@[simp] theorem State.setLoss_loss (r : Requester) (l : Loss) : (s.setLoss r l).loss = s.loss.set r l := rfl
@[simp] theorem State.setLoss_tables (r : Requester) (l : Loss) : (s.setLoss r l).tables = s.tables := rfl
@[simp] theorem State.setLoss_establish (r : Requester) (l : Loss) : (s.setLoss r l).establish = s.establish := rfl
@[simp] theorem State.setLoss_fullCopy (r : Requester) (l : Loss) : (s.setLoss r l).fullCopy = s.fullCopy := rfl
@[simp] theorem State.setLoss_cycle (r : Requester) (l : Loss) : (s.setLoss r l).cycle = s.cycle := rfl
@[simp] theorem State.setLoss_changeList (r : Requester) (l : Loss) : (s.setLoss r l).changeList = s.changeList := rfl
@[simp] theorem State.setLoss_wide (r : Requester) (l : Loss) : (s.setLoss r l).wide = s.wide := rfl
@[simp] theorem State.setLoss_checkpointValid (r : Requester) (l : Loss) : (s.setLoss r l).checkpointValid = s.checkpointValid := rfl
@[simp] theorem State.setLoss_lostList (r : Requester) (l : Loss) : (s.setLoss r l).lostList = s.lostList := rfl
@[simp] theorem State.setLoss_close (r : Requester) (l : Loss) : (s.setLoss r l).close = s.close := rfl
@[simp] theorem State.setLoss_rollback (r : Requester) (l : Loss) : (s.setLoss r l).rollback = s.rollback := rfl
@[simp] theorem State.setLoss_scrubCursor (r : Requester) (l : Loss) : (s.setLoss r l).scrubCursor = s.scrubCursor := rfl
@[simp] theorem State.setLoss_scrubPasses (r : Requester) (l : Loss) : (s.setLoss r l).scrubPasses = s.scrubPasses := rfl
@[simp] theorem State.setLoss_scrubLag (r : Requester) (l : Loss) : (s.setLoss r l).scrubLag = s.scrubLag := rfl
@[simp] theorem State.setLoss_pace (r : Requester) (l : Loss) : (s.setLoss r l).pace = s.pace := rfl
@[simp] theorem State.setLoss_verify (r : Requester) (l : Loss) : (s.setLoss r l).verify = s.verify := rfl
@[simp] theorem State.setLoss_kept (r : Requester) (l : Loss) : (s.setLoss r l).kept = s.kept := rfl
@[simp] theorem State.setLoss_autoCount (r : Requester) (l : Loss) : (s.setLoss r l).autoCount = s.autoCount := rfl
@[simp] theorem State.setLoss_standings (r : Requester) (l : Loss) : (s.setLoss r l).standings = s.standings := rfl
@[simp] theorem State.setLoss_slotX1 (r : Requester) (l : Loss) : (s.setLoss r l).slotX1 = s.slotX1 := rfl
@[simp] theorem State.setLoss_slotX2 (r : Requester) (l : Loss) : (s.setLoss r l).slotX2 = s.slotX2 := rfl
@[simp] theorem State.setLoss_vote (r : Requester) (l : Loss) : (s.setLoss r l).vote = s.vote := rfl
@[simp] theorem State.setLoss_lastVoted (r : Requester) (l : Loss) : (s.setLoss r l).lastVoted = s.lastVoted := rfl
@[simp] theorem State.setLoss_confirmed (r : Requester) (l : Loss) : (s.setLoss r l).confirmed = s.confirmed := rfl
@[simp] theorem State.setLoss_healthyPin (r : Requester) (l : Loss) : (s.setLoss r l).healthyPin = s.healthyPin := rfl
@[simp] theorem State.setLoss_join (r : Requester) (l : Loss) : (s.setLoss r l).join = s.join := rfl
@[simp] theorem State.setLoss_receive (r : Requester) (l : Loss) : (s.setLoss r l).receive = s.receive := rfl
@[simp] theorem State.setLoss_transfer (r : Requester) (l : Loss) : (s.setLoss r l).transfer = s.transfer := rfl
@[simp] theorem State.setLoss_x1 (r : Requester) (l : Loss) : (s.setLoss r l).x1 = s.x1 := rfl
@[simp] theorem State.setLoss_x2 (r : Requester) (l : Loss) : (s.setLoss r l).x2 = s.x2 := rfl
@[simp] theorem State.setLoss_laneInside (r : Requester) (l : Loss) : (s.setLoss r l).laneInside = s.laneInside := rfl
@[simp] theorem State.setLoss_requests (r : Requester) (l : Loss) : (s.setLoss r l).requests = s.requests := rfl
@[simp] theorem State.setLoss_immediate (r : Requester) (l : Loss) : (s.setLoss r l).immediate = s.immediate := rfl
@[simp] theorem State.setLoss_notices (r : Requester) (l : Loss) : (s.setLoss r l).notices = s.notices := rfl
@[simp] theorem State.setLoss_noticeDrops (r : Requester) (l : Loss) : (s.setLoss r l).noticeDrops = s.noticeDrops := rfl
@[simp] theorem State.setLoss_replyDrops (r : Requester) (l : Loss) : (s.setLoss r l).replyDrops = s.replyDrops := rfl
@[simp] theorem State.setLoss_laneTx (r : Requester) (l : Loss) : (s.setLoss r l).laneTx = s.laneTx := rfl
@[simp] theorem State.setLoss_counters (r : Requester) (l : Loss) : (s.setLoss r l).counters = s.counters := rfl
@[simp] theorem State.setLoss_masks (r : Requester) (l : Loss) : (s.setLoss r l).masks = s.masks := rfl
@[simp] theorem State.setLoss_log (r : Requester) (l : Loss) : (s.setLoss r l).log = s.log := rfl
@[simp] theorem State.setLoss_overrun (r : Requester) (l : Loss) : (s.setLoss r l).overrun = s.overrun := rfl
@[simp] theorem State.setLoss_first (r : Requester) (l : Loss) : (s.setLoss r l).first = s.first := rfl
@[simp] theorem State.setLoss_pending (r : Requester) (l : Loss) : (s.setLoss r l).pending = s.pending := rfl

/-! ### withdraw -/

@[simp] theorem State.withdraw_part (r : Requester) : (s.withdraw r).part = s.part := rfl
@[simp] theorem State.withdraw_strap (r : Requester) : (s.withdraw r).strap = s.strap := rfl
@[simp] theorem State.withdraw_installation (r : Requester) : (s.withdraw r).installation = s.installation := rfl
@[simp] theorem State.withdraw_timings (r : Requester) : (s.withdraw r).timings = s.timings := rfl
@[simp] theorem State.withdraw_store (r : Requester) : (s.withdraw r).store = s.store := rfl
@[simp] theorem State.withdraw_clearNext (r : Requester) : (s.withdraw r).clearNext = s.clearNext := rfl
@[simp] theorem State.withdraw_storeGrant (r : Requester) : (s.withdraw r).storeGrant = s.storeGrant := rfl
@[simp] theorem State.withdraw_waiting (r : Requester) : (s.withdraw r).waiting = s.waiting.set r false := rfl
@[simp] theorem State.withdraw_loss (r : Requester) : (s.withdraw r).loss = s.loss.set r .idle := rfl
@[simp] theorem State.withdraw_tables (r : Requester) : (s.withdraw r).tables = s.tables := rfl
@[simp] theorem State.withdraw_establish (r : Requester) : (s.withdraw r).establish = s.establish := rfl
@[simp] theorem State.withdraw_fullCopy (r : Requester) : (s.withdraw r).fullCopy = s.fullCopy := rfl
@[simp] theorem State.withdraw_cycle (r : Requester) : (s.withdraw r).cycle = s.cycle := rfl
@[simp] theorem State.withdraw_changeList (r : Requester) : (s.withdraw r).changeList = s.changeList := rfl
@[simp] theorem State.withdraw_wide (r : Requester) : (s.withdraw r).wide = s.wide := rfl
@[simp] theorem State.withdraw_checkpointValid (r : Requester) : (s.withdraw r).checkpointValid = s.checkpointValid := rfl
@[simp] theorem State.withdraw_lostList (r : Requester) : (s.withdraw r).lostList = s.lostList := rfl
@[simp] theorem State.withdraw_close (r : Requester) : (s.withdraw r).close = s.close := rfl
@[simp] theorem State.withdraw_rollback (r : Requester) : (s.withdraw r).rollback = s.rollback := rfl
@[simp] theorem State.withdraw_scrubCursor (r : Requester) : (s.withdraw r).scrubCursor = s.scrubCursor := rfl
@[simp] theorem State.withdraw_scrubPasses (r : Requester) : (s.withdraw r).scrubPasses = s.scrubPasses := rfl
@[simp] theorem State.withdraw_scrubLag (r : Requester) : (s.withdraw r).scrubLag = s.scrubLag := rfl
@[simp] theorem State.withdraw_pace (r : Requester) : (s.withdraw r).pace = s.pace := rfl
@[simp] theorem State.withdraw_verify (r : Requester) : (s.withdraw r).verify = s.verify := rfl
@[simp] theorem State.withdraw_kept (r : Requester) : (s.withdraw r).kept = s.kept := rfl
@[simp] theorem State.withdraw_autoCount (r : Requester) : (s.withdraw r).autoCount = s.autoCount := rfl
@[simp] theorem State.withdraw_standings (r : Requester) : (s.withdraw r).standings = s.standings := rfl
@[simp] theorem State.withdraw_slotX1 (r : Requester) : (s.withdraw r).slotX1 = s.slotX1 := rfl
@[simp] theorem State.withdraw_slotX2 (r : Requester) : (s.withdraw r).slotX2 = s.slotX2 := rfl
@[simp] theorem State.withdraw_vote (r : Requester) : (s.withdraw r).vote = s.vote := rfl
@[simp] theorem State.withdraw_lastVoted (r : Requester) : (s.withdraw r).lastVoted = s.lastVoted := rfl
@[simp] theorem State.withdraw_confirmed (r : Requester) : (s.withdraw r).confirmed = s.confirmed := rfl
@[simp] theorem State.withdraw_healthyPin (r : Requester) : (s.withdraw r).healthyPin = s.healthyPin := rfl
@[simp] theorem State.withdraw_join (r : Requester) : (s.withdraw r).join = s.join := rfl
@[simp] theorem State.withdraw_receive (r : Requester) : (s.withdraw r).receive = s.receive := rfl
@[simp] theorem State.withdraw_transfer (r : Requester) : (s.withdraw r).transfer = s.transfer := rfl
@[simp] theorem State.withdraw_x1 (r : Requester) : (s.withdraw r).x1 = s.x1 := rfl
@[simp] theorem State.withdraw_x2 (r : Requester) : (s.withdraw r).x2 = s.x2 := rfl
@[simp] theorem State.withdraw_laneInside (r : Requester) : (s.withdraw r).laneInside = s.laneInside := rfl
@[simp] theorem State.withdraw_requests (r : Requester) : (s.withdraw r).requests = s.requests := rfl
@[simp] theorem State.withdraw_immediate (r : Requester) : (s.withdraw r).immediate = s.immediate := rfl
@[simp] theorem State.withdraw_notices (r : Requester) : (s.withdraw r).notices = s.notices := rfl
@[simp] theorem State.withdraw_noticeDrops (r : Requester) : (s.withdraw r).noticeDrops = s.noticeDrops := rfl
@[simp] theorem State.withdraw_replyDrops (r : Requester) : (s.withdraw r).replyDrops = s.replyDrops := rfl
@[simp] theorem State.withdraw_laneTx (r : Requester) : (s.withdraw r).laneTx = s.laneTx := rfl
@[simp] theorem State.withdraw_counters (r : Requester) : (s.withdraw r).counters = s.counters := rfl
@[simp] theorem State.withdraw_masks (r : Requester) : (s.withdraw r).masks = s.masks := rfl
@[simp] theorem State.withdraw_log (r : Requester) : (s.withdraw r).log = s.log := rfl
@[simp] theorem State.withdraw_overrun (r : Requester) : (s.withdraw r).overrun = s.overrun := rfl
@[simp] theorem State.withdraw_first (r : Requester) : (s.withdraw r).first = s.first := rfl
@[simp] theorem State.withdraw_pending (r : Requester) : (s.withdraw r).pending = s.pending := rfl

/-! ### unlose -/

@[simp] theorem State.unlose_part (a : Nat) : (s.unlose a).part = s.part := rfl
@[simp] theorem State.unlose_strap (a : Nat) : (s.unlose a).strap = s.strap := rfl
@[simp] theorem State.unlose_installation (a : Nat) : (s.unlose a).installation = s.installation := rfl
@[simp] theorem State.unlose_timings (a : Nat) : (s.unlose a).timings = s.timings := rfl
@[simp] theorem State.unlose_store (a : Nat) : (s.unlose a).store = s.store := rfl
@[simp] theorem State.unlose_clearNext (a : Nat) : (s.unlose a).clearNext = s.clearNext := rfl
@[simp] theorem State.unlose_storeGrant (a : Nat) : (s.unlose a).storeGrant = s.storeGrant := rfl
@[simp] theorem State.unlose_waiting (a : Nat) : (s.unlose a).waiting = s.waiting := rfl
@[simp] theorem State.unlose_loss (a : Nat) : (s.unlose a).loss = s.loss := rfl
@[simp] theorem State.unlose_tables (a : Nat) : (s.unlose a).tables = s.tables := rfl
@[simp] theorem State.unlose_establish (a : Nat) : (s.unlose a).establish = s.establish := rfl
@[simp] theorem State.unlose_fullCopy (a : Nat) : (s.unlose a).fullCopy = s.fullCopy := rfl
@[simp] theorem State.unlose_cycle (a : Nat) : (s.unlose a).cycle = s.cycle := rfl
@[simp] theorem State.unlose_changeList (a : Nat) : (s.unlose a).changeList = s.changeList := rfl
@[simp] theorem State.unlose_wide (a : Nat) : (s.unlose a).wide = s.wide := rfl
@[simp] theorem State.unlose_checkpointValid (a : Nat) : (s.unlose a).checkpointValid = s.checkpointValid := rfl
@[simp] theorem State.unlose_lostList (a : Nat) : (s.unlose a).lostList = s.lostList.erase a := rfl
@[simp] theorem State.unlose_close (a : Nat) : (s.unlose a).close = s.close := rfl
@[simp] theorem State.unlose_rollback (a : Nat) : (s.unlose a).rollback = s.rollback := rfl
@[simp] theorem State.unlose_scrubCursor (a : Nat) : (s.unlose a).scrubCursor = s.scrubCursor := rfl
@[simp] theorem State.unlose_scrubPasses (a : Nat) : (s.unlose a).scrubPasses = s.scrubPasses := rfl
@[simp] theorem State.unlose_scrubLag (a : Nat) : (s.unlose a).scrubLag = s.scrubLag := rfl
@[simp] theorem State.unlose_pace (a : Nat) : (s.unlose a).pace = s.pace := rfl
@[simp] theorem State.unlose_verify (a : Nat) : (s.unlose a).verify = s.verify := rfl
@[simp] theorem State.unlose_kept (a : Nat) : (s.unlose a).kept = s.kept := rfl
@[simp] theorem State.unlose_autoCount (a : Nat) : (s.unlose a).autoCount = s.autoCount := rfl
@[simp] theorem State.unlose_standings (a : Nat) : (s.unlose a).standings = s.standings := rfl
@[simp] theorem State.unlose_slotX1 (a : Nat) : (s.unlose a).slotX1 = s.slotX1 := rfl
@[simp] theorem State.unlose_slotX2 (a : Nat) : (s.unlose a).slotX2 = s.slotX2 := rfl
@[simp] theorem State.unlose_vote (a : Nat) : (s.unlose a).vote = s.vote := rfl
@[simp] theorem State.unlose_lastVoted (a : Nat) : (s.unlose a).lastVoted = s.lastVoted := rfl
@[simp] theorem State.unlose_confirmed (a : Nat) : (s.unlose a).confirmed = s.confirmed := rfl
@[simp] theorem State.unlose_healthyPin (a : Nat) : (s.unlose a).healthyPin = s.healthyPin := rfl
@[simp] theorem State.unlose_join (a : Nat) : (s.unlose a).join = s.join := rfl
@[simp] theorem State.unlose_receive (a : Nat) : (s.unlose a).receive = s.receive := rfl
@[simp] theorem State.unlose_transfer (a : Nat) : (s.unlose a).transfer = s.transfer := rfl
@[simp] theorem State.unlose_x1 (a : Nat) : (s.unlose a).x1 = s.x1 := rfl
@[simp] theorem State.unlose_x2 (a : Nat) : (s.unlose a).x2 = s.x2 := rfl
@[simp] theorem State.unlose_laneInside (a : Nat) : (s.unlose a).laneInside = s.laneInside := rfl
@[simp] theorem State.unlose_requests (a : Nat) : (s.unlose a).requests = s.requests := rfl
@[simp] theorem State.unlose_immediate (a : Nat) : (s.unlose a).immediate = s.immediate := rfl
@[simp] theorem State.unlose_notices (a : Nat) : (s.unlose a).notices = s.notices := rfl
@[simp] theorem State.unlose_noticeDrops (a : Nat) : (s.unlose a).noticeDrops = s.noticeDrops := rfl
@[simp] theorem State.unlose_replyDrops (a : Nat) : (s.unlose a).replyDrops = s.replyDrops := rfl
@[simp] theorem State.unlose_laneTx (a : Nat) : (s.unlose a).laneTx = s.laneTx := rfl
@[simp] theorem State.unlose_counters (a : Nat) : (s.unlose a).counters = s.counters := rfl
@[simp] theorem State.unlose_masks (a : Nat) : (s.unlose a).masks = s.masks := rfl
@[simp] theorem State.unlose_log (a : Nat) : (s.unlose a).log = s.log := rfl
@[simp] theorem State.unlose_overrun (a : Nat) : (s.unlose a).overrun = s.overrun := rfl
@[simp] theorem State.unlose_first (a : Nat) : (s.unlose a).first = s.first := rfl
@[simp] theorem State.unlose_pending (a : Nat) : (s.unlose a).pending = s.pending := rfl

/-! ### work -/

@[simp] theorem State.work_part (w : Work) : (s.work w).part = s.part := rfl
@[simp] theorem State.work_strap (w : Work) : (s.work w).strap = s.strap := rfl
@[simp] theorem State.work_installation (w : Work) : (s.work w).installation = s.installation := rfl
@[simp] theorem State.work_timings (w : Work) : (s.work w).timings = s.timings := rfl
@[simp] theorem State.work_store (w : Work) : (s.work w).store = s.store := rfl
@[simp] theorem State.work_clearNext (w : Work) : (s.work w).clearNext = s.clearNext := rfl
@[simp] theorem State.work_storeGrant (w : Work) : (s.work w).storeGrant = s.storeGrant := rfl
@[simp] theorem State.work_waiting (w : Work) : (s.work w).waiting = s.waiting := rfl
@[simp] theorem State.work_loss (w : Work) : (s.work w).loss = s.loss := rfl
@[simp] theorem State.work_tables (w : Work) : (s.work w).tables = s.tables := rfl
@[simp] theorem State.work_establish (w : Work) : (s.work w).establish = s.establish := rfl
@[simp] theorem State.work_fullCopy (w : Work) : (s.work w).fullCopy = s.fullCopy := rfl
@[simp] theorem State.work_cycle (w : Work) : (s.work w).cycle = s.cycle := rfl
@[simp] theorem State.work_changeList (w : Work) : (s.work w).changeList = s.changeList := rfl
@[simp] theorem State.work_wide (w : Work) : (s.work w).wide = s.wide := rfl
@[simp] theorem State.work_checkpointValid (w : Work) : (s.work w).checkpointValid = s.checkpointValid := rfl
@[simp] theorem State.work_lostList (w : Work) : (s.work w).lostList = s.lostList := rfl
@[simp] theorem State.work_close (w : Work) : (s.work w).close = s.close := rfl
@[simp] theorem State.work_rollback (w : Work) : (s.work w).rollback = s.rollback := rfl
@[simp] theorem State.work_scrubCursor (w : Work) : (s.work w).scrubCursor = s.scrubCursor := rfl
@[simp] theorem State.work_scrubPasses (w : Work) : (s.work w).scrubPasses = s.scrubPasses := rfl
@[simp] theorem State.work_scrubLag (w : Work) : (s.work w).scrubLag = s.scrubLag := rfl
@[simp] theorem State.work_pace (w : Work) : (s.work w).pace = s.pace := rfl
@[simp] theorem State.work_verify (w : Work) : (s.work w).verify = s.verify := rfl
@[simp] theorem State.work_kept (w : Work) : (s.work w).kept = s.kept := rfl
@[simp] theorem State.work_autoCount (w : Work) : (s.work w).autoCount = s.autoCount := rfl
@[simp] theorem State.work_standings (w : Work) : (s.work w).standings = s.standings := rfl
@[simp] theorem State.work_slotX1 (w : Work) : (s.work w).slotX1 = s.slotX1 := rfl
@[simp] theorem State.work_slotX2 (w : Work) : (s.work w).slotX2 = s.slotX2 := rfl
@[simp] theorem State.work_vote (w : Work) : (s.work w).vote = s.vote := rfl
@[simp] theorem State.work_lastVoted (w : Work) : (s.work w).lastVoted = s.lastVoted := rfl
@[simp] theorem State.work_confirmed (w : Work) : (s.work w).confirmed = s.confirmed := rfl
@[simp] theorem State.work_healthyPin (w : Work) : (s.work w).healthyPin = s.healthyPin := rfl
@[simp] theorem State.work_join (w : Work) : (s.work w).join = s.join := rfl
@[simp] theorem State.work_receive (w : Work) : (s.work w).receive = s.receive := rfl
@[simp] theorem State.work_transfer (w : Work) : (s.work w).transfer = s.transfer := rfl
@[simp] theorem State.work_x1 (w : Work) : (s.work w).x1 = s.x1 := rfl
@[simp] theorem State.work_x2 (w : Work) : (s.work w).x2 = s.x2 := rfl
@[simp] theorem State.work_laneInside (w : Work) : (s.work w).laneInside = s.laneInside := rfl
@[simp] theorem State.work_requests (w : Work) : (s.work w).requests = setProgress (.serving w) s.requests := rfl
@[simp] theorem State.work_immediate (w : Work) : (s.work w).immediate = s.immediate := rfl
@[simp] theorem State.work_notices (w : Work) : (s.work w).notices = s.notices := rfl
@[simp] theorem State.work_noticeDrops (w : Work) : (s.work w).noticeDrops = s.noticeDrops := rfl
@[simp] theorem State.work_replyDrops (w : Work) : (s.work w).replyDrops = s.replyDrops := rfl
@[simp] theorem State.work_laneTx (w : Work) : (s.work w).laneTx = s.laneTx := rfl
@[simp] theorem State.work_counters (w : Work) : (s.work w).counters = s.counters := rfl
@[simp] theorem State.work_masks (w : Work) : (s.work w).masks = s.masks := rfl
@[simp] theorem State.work_log (w : Work) : (s.work w).log = s.log := rfl
@[simp] theorem State.work_overrun (w : Work) : (s.work w).overrun = s.overrun := rfl
@[simp] theorem State.work_first (w : Work) : (s.work w).first = s.first := rfl
@[simp] theorem State.work_pending (w : Work) : (s.work w).pending = s.pending := rfl

/-! ### setJoin -/

@[simp] theorem State.setJoin_part (j : JoinRecord) : (s.setJoin j).part = s.part := rfl
@[simp] theorem State.setJoin_strap (j : JoinRecord) : (s.setJoin j).strap = s.strap := rfl
@[simp] theorem State.setJoin_installation (j : JoinRecord) : (s.setJoin j).installation = s.installation := rfl
@[simp] theorem State.setJoin_timings (j : JoinRecord) : (s.setJoin j).timings = s.timings := rfl
@[simp] theorem State.setJoin_store (j : JoinRecord) : (s.setJoin j).store = s.store := rfl
@[simp] theorem State.setJoin_clearNext (j : JoinRecord) : (s.setJoin j).clearNext = s.clearNext := rfl
@[simp] theorem State.setJoin_storeGrant (j : JoinRecord) : (s.setJoin j).storeGrant = s.storeGrant := rfl
@[simp] theorem State.setJoin_waiting (j : JoinRecord) : (s.setJoin j).waiting = s.waiting := rfl
@[simp] theorem State.setJoin_loss (j : JoinRecord) : (s.setJoin j).loss = s.loss := rfl
@[simp] theorem State.setJoin_tables (j : JoinRecord) : (s.setJoin j).tables = s.tables := rfl
@[simp] theorem State.setJoin_establish (j : JoinRecord) : (s.setJoin j).establish = s.establish := rfl
@[simp] theorem State.setJoin_fullCopy (j : JoinRecord) : (s.setJoin j).fullCopy = s.fullCopy := rfl
@[simp] theorem State.setJoin_cycle (j : JoinRecord) : (s.setJoin j).cycle = s.cycle := rfl
@[simp] theorem State.setJoin_changeList (j : JoinRecord) : (s.setJoin j).changeList = s.changeList := rfl
@[simp] theorem State.setJoin_wide (j : JoinRecord) : (s.setJoin j).wide = s.wide := rfl
@[simp] theorem State.setJoin_checkpointValid (j : JoinRecord) : (s.setJoin j).checkpointValid = s.checkpointValid := rfl
@[simp] theorem State.setJoin_lostList (j : JoinRecord) : (s.setJoin j).lostList = s.lostList := rfl
@[simp] theorem State.setJoin_close (j : JoinRecord) : (s.setJoin j).close = s.close := rfl
@[simp] theorem State.setJoin_rollback (j : JoinRecord) : (s.setJoin j).rollback = s.rollback := rfl
@[simp] theorem State.setJoin_scrubCursor (j : JoinRecord) : (s.setJoin j).scrubCursor = s.scrubCursor := rfl
@[simp] theorem State.setJoin_scrubPasses (j : JoinRecord) : (s.setJoin j).scrubPasses = s.scrubPasses := rfl
@[simp] theorem State.setJoin_scrubLag (j : JoinRecord) : (s.setJoin j).scrubLag = s.scrubLag := rfl
@[simp] theorem State.setJoin_pace (j : JoinRecord) : (s.setJoin j).pace = s.pace := rfl
@[simp] theorem State.setJoin_verify (j : JoinRecord) : (s.setJoin j).verify = s.verify := rfl
@[simp] theorem State.setJoin_kept (j : JoinRecord) : (s.setJoin j).kept = s.kept := rfl
@[simp] theorem State.setJoin_autoCount (j : JoinRecord) : (s.setJoin j).autoCount = s.autoCount := rfl
@[simp] theorem State.setJoin_standings (j : JoinRecord) : (s.setJoin j).standings = s.standings := rfl
@[simp] theorem State.setJoin_slotX1 (j : JoinRecord) : (s.setJoin j).slotX1 = s.slotX1 := rfl
@[simp] theorem State.setJoin_slotX2 (j : JoinRecord) : (s.setJoin j).slotX2 = s.slotX2 := rfl
@[simp] theorem State.setJoin_vote (j : JoinRecord) : (s.setJoin j).vote = s.vote := rfl
@[simp] theorem State.setJoin_lastVoted (j : JoinRecord) : (s.setJoin j).lastVoted = s.lastVoted := rfl
@[simp] theorem State.setJoin_confirmed (j : JoinRecord) : (s.setJoin j).confirmed = s.confirmed := rfl
@[simp] theorem State.setJoin_healthyPin (j : JoinRecord) : (s.setJoin j).healthyPin = s.healthyPin := rfl
@[simp] theorem State.setJoin_join (j : JoinRecord) : (s.setJoin j).join = some j := rfl
@[simp] theorem State.setJoin_receive (j : JoinRecord) : (s.setJoin j).receive = s.receive := rfl
@[simp] theorem State.setJoin_transfer (j : JoinRecord) : (s.setJoin j).transfer = s.transfer := rfl
@[simp] theorem State.setJoin_x1 (j : JoinRecord) : (s.setJoin j).x1 = s.x1 := rfl
@[simp] theorem State.setJoin_x2 (j : JoinRecord) : (s.setJoin j).x2 = s.x2 := rfl
@[simp] theorem State.setJoin_laneInside (j : JoinRecord) : (s.setJoin j).laneInside = s.laneInside := rfl
@[simp] theorem State.setJoin_requests (j : JoinRecord) : (s.setJoin j).requests = s.requests := rfl
@[simp] theorem State.setJoin_immediate (j : JoinRecord) : (s.setJoin j).immediate = s.immediate := rfl
@[simp] theorem State.setJoin_notices (j : JoinRecord) : (s.setJoin j).notices = s.notices := rfl
@[simp] theorem State.setJoin_noticeDrops (j : JoinRecord) : (s.setJoin j).noticeDrops = s.noticeDrops := rfl
@[simp] theorem State.setJoin_replyDrops (j : JoinRecord) : (s.setJoin j).replyDrops = s.replyDrops := rfl
@[simp] theorem State.setJoin_laneTx (j : JoinRecord) : (s.setJoin j).laneTx = s.laneTx := rfl
@[simp] theorem State.setJoin_counters (j : JoinRecord) : (s.setJoin j).counters = s.counters := rfl
@[simp] theorem State.setJoin_masks (j : JoinRecord) : (s.setJoin j).masks = s.masks := rfl
@[simp] theorem State.setJoin_log (j : JoinRecord) : (s.setJoin j).log = s.log := rfl
@[simp] theorem State.setJoin_overrun (j : JoinRecord) : (s.setJoin j).overrun = s.overrun := rfl
@[simp] theorem State.setJoin_first (j : JoinRecord) : (s.setJoin j).first = s.first := rfl
@[simp] theorem State.setJoin_pending (j : JoinRecord) : (s.setJoin j).pending = s.pending := rfl

/-! ### setReceive -/

@[simp] theorem State.setReceive_part (r : ReceiveRecord) : (s.setReceive r).part = s.part := rfl
@[simp] theorem State.setReceive_strap (r : ReceiveRecord) : (s.setReceive r).strap = s.strap := rfl
@[simp] theorem State.setReceive_installation (r : ReceiveRecord) : (s.setReceive r).installation = s.installation := rfl
@[simp] theorem State.setReceive_timings (r : ReceiveRecord) : (s.setReceive r).timings = s.timings := rfl
@[simp] theorem State.setReceive_store (r : ReceiveRecord) : (s.setReceive r).store = s.store := rfl
@[simp] theorem State.setReceive_clearNext (r : ReceiveRecord) : (s.setReceive r).clearNext = s.clearNext := rfl
@[simp] theorem State.setReceive_storeGrant (r : ReceiveRecord) : (s.setReceive r).storeGrant = s.storeGrant := rfl
@[simp] theorem State.setReceive_waiting (r : ReceiveRecord) : (s.setReceive r).waiting = s.waiting := rfl
@[simp] theorem State.setReceive_loss (r : ReceiveRecord) : (s.setReceive r).loss = s.loss := rfl
@[simp] theorem State.setReceive_tables (r : ReceiveRecord) : (s.setReceive r).tables = s.tables := rfl
@[simp] theorem State.setReceive_establish (r : ReceiveRecord) : (s.setReceive r).establish = s.establish := rfl
@[simp] theorem State.setReceive_fullCopy (r : ReceiveRecord) : (s.setReceive r).fullCopy = s.fullCopy := rfl
@[simp] theorem State.setReceive_cycle (r : ReceiveRecord) : (s.setReceive r).cycle = s.cycle := rfl
@[simp] theorem State.setReceive_changeList (r : ReceiveRecord) : (s.setReceive r).changeList = s.changeList := rfl
@[simp] theorem State.setReceive_wide (r : ReceiveRecord) : (s.setReceive r).wide = s.wide := rfl
@[simp] theorem State.setReceive_checkpointValid (r : ReceiveRecord) : (s.setReceive r).checkpointValid = s.checkpointValid := rfl
@[simp] theorem State.setReceive_lostList (r : ReceiveRecord) : (s.setReceive r).lostList = s.lostList := rfl
@[simp] theorem State.setReceive_close (r : ReceiveRecord) : (s.setReceive r).close = s.close := rfl
@[simp] theorem State.setReceive_rollback (r : ReceiveRecord) : (s.setReceive r).rollback = s.rollback := rfl
@[simp] theorem State.setReceive_scrubCursor (r : ReceiveRecord) : (s.setReceive r).scrubCursor = s.scrubCursor := rfl
@[simp] theorem State.setReceive_scrubPasses (r : ReceiveRecord) : (s.setReceive r).scrubPasses = s.scrubPasses := rfl
@[simp] theorem State.setReceive_scrubLag (r : ReceiveRecord) : (s.setReceive r).scrubLag = s.scrubLag := rfl
@[simp] theorem State.setReceive_pace (r : ReceiveRecord) : (s.setReceive r).pace = s.pace := rfl
@[simp] theorem State.setReceive_verify (r : ReceiveRecord) : (s.setReceive r).verify = s.verify := rfl
@[simp] theorem State.setReceive_kept (r : ReceiveRecord) : (s.setReceive r).kept = s.kept := rfl
@[simp] theorem State.setReceive_autoCount (r : ReceiveRecord) : (s.setReceive r).autoCount = s.autoCount := rfl
@[simp] theorem State.setReceive_standings (r : ReceiveRecord) : (s.setReceive r).standings = s.standings := rfl
@[simp] theorem State.setReceive_slotX1 (r : ReceiveRecord) : (s.setReceive r).slotX1 = s.slotX1 := rfl
@[simp] theorem State.setReceive_slotX2 (r : ReceiveRecord) : (s.setReceive r).slotX2 = s.slotX2 := rfl
@[simp] theorem State.setReceive_vote (r : ReceiveRecord) : (s.setReceive r).vote = s.vote := rfl
@[simp] theorem State.setReceive_lastVoted (r : ReceiveRecord) : (s.setReceive r).lastVoted = s.lastVoted := rfl
@[simp] theorem State.setReceive_confirmed (r : ReceiveRecord) : (s.setReceive r).confirmed = s.confirmed := rfl
@[simp] theorem State.setReceive_healthyPin (r : ReceiveRecord) : (s.setReceive r).healthyPin = s.healthyPin := rfl
@[simp] theorem State.setReceive_join (r : ReceiveRecord) : (s.setReceive r).join = s.join := rfl
@[simp] theorem State.setReceive_receive (r : ReceiveRecord) : (s.setReceive r).receive = some r := rfl
@[simp] theorem State.setReceive_transfer (r : ReceiveRecord) : (s.setReceive r).transfer = s.transfer := rfl
@[simp] theorem State.setReceive_x1 (r : ReceiveRecord) : (s.setReceive r).x1 = s.x1 := rfl
@[simp] theorem State.setReceive_x2 (r : ReceiveRecord) : (s.setReceive r).x2 = s.x2 := rfl
@[simp] theorem State.setReceive_laneInside (r : ReceiveRecord) : (s.setReceive r).laneInside = s.laneInside := rfl
@[simp] theorem State.setReceive_requests (r : ReceiveRecord) : (s.setReceive r).requests = s.requests := rfl
@[simp] theorem State.setReceive_immediate (r : ReceiveRecord) : (s.setReceive r).immediate = s.immediate := rfl
@[simp] theorem State.setReceive_notices (r : ReceiveRecord) : (s.setReceive r).notices = s.notices := rfl
@[simp] theorem State.setReceive_noticeDrops (r : ReceiveRecord) : (s.setReceive r).noticeDrops = s.noticeDrops := rfl
@[simp] theorem State.setReceive_replyDrops (r : ReceiveRecord) : (s.setReceive r).replyDrops = s.replyDrops := rfl
@[simp] theorem State.setReceive_laneTx (r : ReceiveRecord) : (s.setReceive r).laneTx = s.laneTx := rfl
@[simp] theorem State.setReceive_counters (r : ReceiveRecord) : (s.setReceive r).counters = s.counters := rfl
@[simp] theorem State.setReceive_masks (r : ReceiveRecord) : (s.setReceive r).masks = s.masks := rfl
@[simp] theorem State.setReceive_log (r : ReceiveRecord) : (s.setReceive r).log = s.log := rfl
@[simp] theorem State.setReceive_overrun (r : ReceiveRecord) : (s.setReceive r).overrun = s.overrun := rfl
@[simp] theorem State.setReceive_first (r : ReceiveRecord) : (s.setReceive r).first = s.first := rfl
@[simp] theorem State.setReceive_pending (r : ReceiveRecord) : (s.setReceive r).pending = s.pending := rfl

/-! ### setTransfer -/

@[simp] theorem State.setTransfer_part (t : TransferRecord) : (s.setTransfer t).part = s.part := rfl
@[simp] theorem State.setTransfer_strap (t : TransferRecord) : (s.setTransfer t).strap = s.strap := rfl
@[simp] theorem State.setTransfer_installation (t : TransferRecord) : (s.setTransfer t).installation = s.installation := rfl
@[simp] theorem State.setTransfer_timings (t : TransferRecord) : (s.setTransfer t).timings = s.timings := rfl
@[simp] theorem State.setTransfer_store (t : TransferRecord) : (s.setTransfer t).store = s.store := rfl
@[simp] theorem State.setTransfer_clearNext (t : TransferRecord) : (s.setTransfer t).clearNext = s.clearNext := rfl
@[simp] theorem State.setTransfer_storeGrant (t : TransferRecord) : (s.setTransfer t).storeGrant = s.storeGrant := rfl
@[simp] theorem State.setTransfer_waiting (t : TransferRecord) : (s.setTransfer t).waiting = s.waiting := rfl
@[simp] theorem State.setTransfer_loss (t : TransferRecord) : (s.setTransfer t).loss = s.loss := rfl
@[simp] theorem State.setTransfer_tables (t : TransferRecord) : (s.setTransfer t).tables = s.tables := rfl
@[simp] theorem State.setTransfer_establish (t : TransferRecord) : (s.setTransfer t).establish = s.establish := rfl
@[simp] theorem State.setTransfer_fullCopy (t : TransferRecord) : (s.setTransfer t).fullCopy = s.fullCopy := rfl
@[simp] theorem State.setTransfer_cycle (t : TransferRecord) : (s.setTransfer t).cycle = s.cycle := rfl
@[simp] theorem State.setTransfer_changeList (t : TransferRecord) : (s.setTransfer t).changeList = s.changeList := rfl
@[simp] theorem State.setTransfer_wide (t : TransferRecord) : (s.setTransfer t).wide = s.wide := rfl
@[simp] theorem State.setTransfer_checkpointValid (t : TransferRecord) : (s.setTransfer t).checkpointValid = s.checkpointValid := rfl
@[simp] theorem State.setTransfer_lostList (t : TransferRecord) : (s.setTransfer t).lostList = s.lostList := rfl
@[simp] theorem State.setTransfer_close (t : TransferRecord) : (s.setTransfer t).close = s.close := rfl
@[simp] theorem State.setTransfer_rollback (t : TransferRecord) : (s.setTransfer t).rollback = s.rollback := rfl
@[simp] theorem State.setTransfer_scrubCursor (t : TransferRecord) : (s.setTransfer t).scrubCursor = s.scrubCursor := rfl
@[simp] theorem State.setTransfer_scrubPasses (t : TransferRecord) : (s.setTransfer t).scrubPasses = s.scrubPasses := rfl
@[simp] theorem State.setTransfer_scrubLag (t : TransferRecord) : (s.setTransfer t).scrubLag = s.scrubLag := rfl
@[simp] theorem State.setTransfer_pace (t : TransferRecord) : (s.setTransfer t).pace = s.pace := rfl
@[simp] theorem State.setTransfer_verify (t : TransferRecord) : (s.setTransfer t).verify = s.verify := rfl
@[simp] theorem State.setTransfer_kept (t : TransferRecord) : (s.setTransfer t).kept = s.kept := rfl
@[simp] theorem State.setTransfer_autoCount (t : TransferRecord) : (s.setTransfer t).autoCount = s.autoCount := rfl
@[simp] theorem State.setTransfer_standings (t : TransferRecord) : (s.setTransfer t).standings = s.standings := rfl
@[simp] theorem State.setTransfer_slotX1 (t : TransferRecord) : (s.setTransfer t).slotX1 = s.slotX1 := rfl
@[simp] theorem State.setTransfer_slotX2 (t : TransferRecord) : (s.setTransfer t).slotX2 = s.slotX2 := rfl
@[simp] theorem State.setTransfer_vote (t : TransferRecord) : (s.setTransfer t).vote = s.vote := rfl
@[simp] theorem State.setTransfer_lastVoted (t : TransferRecord) : (s.setTransfer t).lastVoted = s.lastVoted := rfl
@[simp] theorem State.setTransfer_confirmed (t : TransferRecord) : (s.setTransfer t).confirmed = s.confirmed := rfl
@[simp] theorem State.setTransfer_healthyPin (t : TransferRecord) : (s.setTransfer t).healthyPin = s.healthyPin := rfl
@[simp] theorem State.setTransfer_join (t : TransferRecord) : (s.setTransfer t).join = s.join := rfl
@[simp] theorem State.setTransfer_receive (t : TransferRecord) : (s.setTransfer t).receive = s.receive := rfl
@[simp] theorem State.setTransfer_transfer (t : TransferRecord) : (s.setTransfer t).transfer = some t := rfl
@[simp] theorem State.setTransfer_x1 (t : TransferRecord) : (s.setTransfer t).x1 = s.x1 := rfl
@[simp] theorem State.setTransfer_x2 (t : TransferRecord) : (s.setTransfer t).x2 = s.x2 := rfl
@[simp] theorem State.setTransfer_laneInside (t : TransferRecord) : (s.setTransfer t).laneInside = s.laneInside := rfl
@[simp] theorem State.setTransfer_requests (t : TransferRecord) : (s.setTransfer t).requests = s.requests := rfl
@[simp] theorem State.setTransfer_immediate (t : TransferRecord) : (s.setTransfer t).immediate = s.immediate := rfl
@[simp] theorem State.setTransfer_notices (t : TransferRecord) : (s.setTransfer t).notices = s.notices := rfl
@[simp] theorem State.setTransfer_noticeDrops (t : TransferRecord) : (s.setTransfer t).noticeDrops = s.noticeDrops := rfl
@[simp] theorem State.setTransfer_replyDrops (t : TransferRecord) : (s.setTransfer t).replyDrops = s.replyDrops := rfl
@[simp] theorem State.setTransfer_laneTx (t : TransferRecord) : (s.setTransfer t).laneTx = s.laneTx := rfl
@[simp] theorem State.setTransfer_counters (t : TransferRecord) : (s.setTransfer t).counters = s.counters := rfl
@[simp] theorem State.setTransfer_masks (t : TransferRecord) : (s.setTransfer t).masks = s.masks := rfl
@[simp] theorem State.setTransfer_log (t : TransferRecord) : (s.setTransfer t).log = s.log := rfl
@[simp] theorem State.setTransfer_overrun (t : TransferRecord) : (s.setTransfer t).overrun = s.overrun := rfl
@[simp] theorem State.setTransfer_first (t : TransferRecord) : (s.setTransfer t).first = s.first := rfl
@[simp] theorem State.setTransfer_pending (t : TransferRecord) : (s.setTransfer t).pending = s.pending := rfl

/-! ### setClose -/

@[simp] theorem State.setClose_part (c : CloseRecord) : (s.setClose c).part = s.part := rfl
@[simp] theorem State.setClose_strap (c : CloseRecord) : (s.setClose c).strap = s.strap := rfl
@[simp] theorem State.setClose_installation (c : CloseRecord) : (s.setClose c).installation = s.installation := rfl
@[simp] theorem State.setClose_timings (c : CloseRecord) : (s.setClose c).timings = s.timings := rfl
@[simp] theorem State.setClose_store (c : CloseRecord) : (s.setClose c).store = s.store := rfl
@[simp] theorem State.setClose_clearNext (c : CloseRecord) : (s.setClose c).clearNext = s.clearNext := rfl
@[simp] theorem State.setClose_storeGrant (c : CloseRecord) : (s.setClose c).storeGrant = s.storeGrant := rfl
@[simp] theorem State.setClose_waiting (c : CloseRecord) : (s.setClose c).waiting = s.waiting := rfl
@[simp] theorem State.setClose_loss (c : CloseRecord) : (s.setClose c).loss = s.loss := rfl
@[simp] theorem State.setClose_tables (c : CloseRecord) : (s.setClose c).tables = s.tables := rfl
@[simp] theorem State.setClose_establish (c : CloseRecord) : (s.setClose c).establish = s.establish := rfl
@[simp] theorem State.setClose_fullCopy (c : CloseRecord) : (s.setClose c).fullCopy = s.fullCopy := rfl
@[simp] theorem State.setClose_cycle (c : CloseRecord) : (s.setClose c).cycle = s.cycle := rfl
@[simp] theorem State.setClose_changeList (c : CloseRecord) : (s.setClose c).changeList = s.changeList := rfl
@[simp] theorem State.setClose_wide (c : CloseRecord) : (s.setClose c).wide = s.wide := rfl
@[simp] theorem State.setClose_checkpointValid (c : CloseRecord) : (s.setClose c).checkpointValid = s.checkpointValid := rfl
@[simp] theorem State.setClose_lostList (c : CloseRecord) : (s.setClose c).lostList = s.lostList := rfl
@[simp] theorem State.setClose_close (c : CloseRecord) : (s.setClose c).close = some c := rfl
@[simp] theorem State.setClose_rollback (c : CloseRecord) : (s.setClose c).rollback = s.rollback := rfl
@[simp] theorem State.setClose_scrubCursor (c : CloseRecord) : (s.setClose c).scrubCursor = s.scrubCursor := rfl
@[simp] theorem State.setClose_scrubPasses (c : CloseRecord) : (s.setClose c).scrubPasses = s.scrubPasses := rfl
@[simp] theorem State.setClose_scrubLag (c : CloseRecord) : (s.setClose c).scrubLag = s.scrubLag := rfl
@[simp] theorem State.setClose_pace (c : CloseRecord) : (s.setClose c).pace = s.pace := rfl
@[simp] theorem State.setClose_verify (c : CloseRecord) : (s.setClose c).verify = s.verify := rfl
@[simp] theorem State.setClose_kept (c : CloseRecord) : (s.setClose c).kept = s.kept := rfl
@[simp] theorem State.setClose_autoCount (c : CloseRecord) : (s.setClose c).autoCount = s.autoCount := rfl
@[simp] theorem State.setClose_standings (c : CloseRecord) : (s.setClose c).standings = s.standings := rfl
@[simp] theorem State.setClose_slotX1 (c : CloseRecord) : (s.setClose c).slotX1 = s.slotX1 := rfl
@[simp] theorem State.setClose_slotX2 (c : CloseRecord) : (s.setClose c).slotX2 = s.slotX2 := rfl
@[simp] theorem State.setClose_vote (c : CloseRecord) : (s.setClose c).vote = s.vote := rfl
@[simp] theorem State.setClose_lastVoted (c : CloseRecord) : (s.setClose c).lastVoted = s.lastVoted := rfl
@[simp] theorem State.setClose_confirmed (c : CloseRecord) : (s.setClose c).confirmed = s.confirmed := rfl
@[simp] theorem State.setClose_healthyPin (c : CloseRecord) : (s.setClose c).healthyPin = s.healthyPin := rfl
@[simp] theorem State.setClose_join (c : CloseRecord) : (s.setClose c).join = s.join := rfl
@[simp] theorem State.setClose_receive (c : CloseRecord) : (s.setClose c).receive = s.receive := rfl
@[simp] theorem State.setClose_transfer (c : CloseRecord) : (s.setClose c).transfer = s.transfer := rfl
@[simp] theorem State.setClose_x1 (c : CloseRecord) : (s.setClose c).x1 = s.x1 := rfl
@[simp] theorem State.setClose_x2 (c : CloseRecord) : (s.setClose c).x2 = s.x2 := rfl
@[simp] theorem State.setClose_laneInside (c : CloseRecord) : (s.setClose c).laneInside = s.laneInside := rfl
@[simp] theorem State.setClose_requests (c : CloseRecord) : (s.setClose c).requests = s.requests := rfl
@[simp] theorem State.setClose_immediate (c : CloseRecord) : (s.setClose c).immediate = s.immediate := rfl
@[simp] theorem State.setClose_notices (c : CloseRecord) : (s.setClose c).notices = s.notices := rfl
@[simp] theorem State.setClose_noticeDrops (c : CloseRecord) : (s.setClose c).noticeDrops = s.noticeDrops := rfl
@[simp] theorem State.setClose_replyDrops (c : CloseRecord) : (s.setClose c).replyDrops = s.replyDrops := rfl
@[simp] theorem State.setClose_laneTx (c : CloseRecord) : (s.setClose c).laneTx = s.laneTx := rfl
@[simp] theorem State.setClose_counters (c : CloseRecord) : (s.setClose c).counters = s.counters := rfl
@[simp] theorem State.setClose_masks (c : CloseRecord) : (s.setClose c).masks = s.masks := rfl
@[simp] theorem State.setClose_log (c : CloseRecord) : (s.setClose c).log = s.log := rfl
@[simp] theorem State.setClose_overrun (c : CloseRecord) : (s.setClose c).overrun = s.overrun := rfl
@[simp] theorem State.setClose_first (c : CloseRecord) : (s.setClose c).first = s.first := rfl
@[simp] theorem State.setClose_pending (c : CloseRecord) : (s.setClose c).pending = s.pending := rfl

/-! ### setRollback -/

@[simp] theorem State.setRollback_part (r : RollbackRecord) : (s.setRollback r).part = s.part := rfl
@[simp] theorem State.setRollback_strap (r : RollbackRecord) : (s.setRollback r).strap = s.strap := rfl
@[simp] theorem State.setRollback_installation (r : RollbackRecord) : (s.setRollback r).installation = s.installation := rfl
@[simp] theorem State.setRollback_timings (r : RollbackRecord) : (s.setRollback r).timings = s.timings := rfl
@[simp] theorem State.setRollback_store (r : RollbackRecord) : (s.setRollback r).store = s.store := rfl
@[simp] theorem State.setRollback_clearNext (r : RollbackRecord) : (s.setRollback r).clearNext = s.clearNext := rfl
@[simp] theorem State.setRollback_storeGrant (r : RollbackRecord) : (s.setRollback r).storeGrant = s.storeGrant := rfl
@[simp] theorem State.setRollback_waiting (r : RollbackRecord) : (s.setRollback r).waiting = s.waiting := rfl
@[simp] theorem State.setRollback_loss (r : RollbackRecord) : (s.setRollback r).loss = s.loss := rfl
@[simp] theorem State.setRollback_tables (r : RollbackRecord) : (s.setRollback r).tables = s.tables := rfl
@[simp] theorem State.setRollback_establish (r : RollbackRecord) : (s.setRollback r).establish = s.establish := rfl
@[simp] theorem State.setRollback_fullCopy (r : RollbackRecord) : (s.setRollback r).fullCopy = s.fullCopy := rfl
@[simp] theorem State.setRollback_cycle (r : RollbackRecord) : (s.setRollback r).cycle = s.cycle := rfl
@[simp] theorem State.setRollback_changeList (r : RollbackRecord) : (s.setRollback r).changeList = s.changeList := rfl
@[simp] theorem State.setRollback_wide (r : RollbackRecord) : (s.setRollback r).wide = s.wide := rfl
@[simp] theorem State.setRollback_checkpointValid (r : RollbackRecord) : (s.setRollback r).checkpointValid = s.checkpointValid := rfl
@[simp] theorem State.setRollback_lostList (r : RollbackRecord) : (s.setRollback r).lostList = s.lostList := rfl
@[simp] theorem State.setRollback_close (r : RollbackRecord) : (s.setRollback r).close = s.close := rfl
@[simp] theorem State.setRollback_rollback (r : RollbackRecord) : (s.setRollback r).rollback = some r := rfl
@[simp] theorem State.setRollback_scrubCursor (r : RollbackRecord) : (s.setRollback r).scrubCursor = s.scrubCursor := rfl
@[simp] theorem State.setRollback_scrubPasses (r : RollbackRecord) : (s.setRollback r).scrubPasses = s.scrubPasses := rfl
@[simp] theorem State.setRollback_scrubLag (r : RollbackRecord) : (s.setRollback r).scrubLag = s.scrubLag := rfl
@[simp] theorem State.setRollback_pace (r : RollbackRecord) : (s.setRollback r).pace = s.pace := rfl
@[simp] theorem State.setRollback_verify (r : RollbackRecord) : (s.setRollback r).verify = s.verify := rfl
@[simp] theorem State.setRollback_kept (r : RollbackRecord) : (s.setRollback r).kept = s.kept := rfl
@[simp] theorem State.setRollback_autoCount (r : RollbackRecord) : (s.setRollback r).autoCount = s.autoCount := rfl
@[simp] theorem State.setRollback_standings (r : RollbackRecord) : (s.setRollback r).standings = s.standings := rfl
@[simp] theorem State.setRollback_slotX1 (r : RollbackRecord) : (s.setRollback r).slotX1 = s.slotX1 := rfl
@[simp] theorem State.setRollback_slotX2 (r : RollbackRecord) : (s.setRollback r).slotX2 = s.slotX2 := rfl
@[simp] theorem State.setRollback_vote (r : RollbackRecord) : (s.setRollback r).vote = s.vote := rfl
@[simp] theorem State.setRollback_lastVoted (r : RollbackRecord) : (s.setRollback r).lastVoted = s.lastVoted := rfl
@[simp] theorem State.setRollback_confirmed (r : RollbackRecord) : (s.setRollback r).confirmed = s.confirmed := rfl
@[simp] theorem State.setRollback_healthyPin (r : RollbackRecord) : (s.setRollback r).healthyPin = s.healthyPin := rfl
@[simp] theorem State.setRollback_join (r : RollbackRecord) : (s.setRollback r).join = s.join := rfl
@[simp] theorem State.setRollback_receive (r : RollbackRecord) : (s.setRollback r).receive = s.receive := rfl
@[simp] theorem State.setRollback_transfer (r : RollbackRecord) : (s.setRollback r).transfer = s.transfer := rfl
@[simp] theorem State.setRollback_x1 (r : RollbackRecord) : (s.setRollback r).x1 = s.x1 := rfl
@[simp] theorem State.setRollback_x2 (r : RollbackRecord) : (s.setRollback r).x2 = s.x2 := rfl
@[simp] theorem State.setRollback_laneInside (r : RollbackRecord) : (s.setRollback r).laneInside = s.laneInside := rfl
@[simp] theorem State.setRollback_requests (r : RollbackRecord) : (s.setRollback r).requests = s.requests := rfl
@[simp] theorem State.setRollback_immediate (r : RollbackRecord) : (s.setRollback r).immediate = s.immediate := rfl
@[simp] theorem State.setRollback_notices (r : RollbackRecord) : (s.setRollback r).notices = s.notices := rfl
@[simp] theorem State.setRollback_noticeDrops (r : RollbackRecord) : (s.setRollback r).noticeDrops = s.noticeDrops := rfl
@[simp] theorem State.setRollback_replyDrops (r : RollbackRecord) : (s.setRollback r).replyDrops = s.replyDrops := rfl
@[simp] theorem State.setRollback_laneTx (r : RollbackRecord) : (s.setRollback r).laneTx = s.laneTx := rfl
@[simp] theorem State.setRollback_counters (r : RollbackRecord) : (s.setRollback r).counters = s.counters := rfl
@[simp] theorem State.setRollback_masks (r : RollbackRecord) : (s.setRollback r).masks = s.masks := rfl
@[simp] theorem State.setRollback_log (r : RollbackRecord) : (s.setRollback r).log = s.log := rfl
@[simp] theorem State.setRollback_overrun (r : RollbackRecord) : (s.setRollback r).overrun = s.overrun := rfl
@[simp] theorem State.setRollback_first (r : RollbackRecord) : (s.setRollback r).first = s.first := rfl
@[simp] theorem State.setRollback_pending (r : RollbackRecord) : (s.setRollback r).pending = s.pending := rfl

/-! ### setVerify -/

@[simp] theorem State.setVerify_part (v : VerifyPass) : (s.setVerify v).part = s.part := rfl
@[simp] theorem State.setVerify_strap (v : VerifyPass) : (s.setVerify v).strap = s.strap := rfl
@[simp] theorem State.setVerify_installation (v : VerifyPass) : (s.setVerify v).installation = s.installation := rfl
@[simp] theorem State.setVerify_timings (v : VerifyPass) : (s.setVerify v).timings = s.timings := rfl
@[simp] theorem State.setVerify_store (v : VerifyPass) : (s.setVerify v).store = s.store := rfl
@[simp] theorem State.setVerify_clearNext (v : VerifyPass) : (s.setVerify v).clearNext = s.clearNext := rfl
@[simp] theorem State.setVerify_storeGrant (v : VerifyPass) : (s.setVerify v).storeGrant = s.storeGrant := rfl
@[simp] theorem State.setVerify_waiting (v : VerifyPass) : (s.setVerify v).waiting = s.waiting := rfl
@[simp] theorem State.setVerify_loss (v : VerifyPass) : (s.setVerify v).loss = s.loss := rfl
@[simp] theorem State.setVerify_tables (v : VerifyPass) : (s.setVerify v).tables = s.tables := rfl
@[simp] theorem State.setVerify_establish (v : VerifyPass) : (s.setVerify v).establish = s.establish := rfl
@[simp] theorem State.setVerify_fullCopy (v : VerifyPass) : (s.setVerify v).fullCopy = s.fullCopy := rfl
@[simp] theorem State.setVerify_cycle (v : VerifyPass) : (s.setVerify v).cycle = s.cycle := rfl
@[simp] theorem State.setVerify_changeList (v : VerifyPass) : (s.setVerify v).changeList = s.changeList := rfl
@[simp] theorem State.setVerify_wide (v : VerifyPass) : (s.setVerify v).wide = s.wide := rfl
@[simp] theorem State.setVerify_checkpointValid (v : VerifyPass) : (s.setVerify v).checkpointValid = s.checkpointValid := rfl
@[simp] theorem State.setVerify_lostList (v : VerifyPass) : (s.setVerify v).lostList = s.lostList := rfl
@[simp] theorem State.setVerify_close (v : VerifyPass) : (s.setVerify v).close = s.close := rfl
@[simp] theorem State.setVerify_rollback (v : VerifyPass) : (s.setVerify v).rollback = s.rollback := rfl
@[simp] theorem State.setVerify_scrubCursor (v : VerifyPass) : (s.setVerify v).scrubCursor = s.scrubCursor := rfl
@[simp] theorem State.setVerify_scrubPasses (v : VerifyPass) : (s.setVerify v).scrubPasses = s.scrubPasses := rfl
@[simp] theorem State.setVerify_scrubLag (v : VerifyPass) : (s.setVerify v).scrubLag = s.scrubLag := rfl
@[simp] theorem State.setVerify_pace (v : VerifyPass) : (s.setVerify v).pace = s.pace := rfl
@[simp] theorem State.setVerify_verify (v : VerifyPass) : (s.setVerify v).verify = some v := rfl
@[simp] theorem State.setVerify_kept (v : VerifyPass) : (s.setVerify v).kept = s.kept := rfl
@[simp] theorem State.setVerify_autoCount (v : VerifyPass) : (s.setVerify v).autoCount = s.autoCount := rfl
@[simp] theorem State.setVerify_standings (v : VerifyPass) : (s.setVerify v).standings = s.standings := rfl
@[simp] theorem State.setVerify_slotX1 (v : VerifyPass) : (s.setVerify v).slotX1 = s.slotX1 := rfl
@[simp] theorem State.setVerify_slotX2 (v : VerifyPass) : (s.setVerify v).slotX2 = s.slotX2 := rfl
@[simp] theorem State.setVerify_vote (v : VerifyPass) : (s.setVerify v).vote = s.vote := rfl
@[simp] theorem State.setVerify_lastVoted (v : VerifyPass) : (s.setVerify v).lastVoted = s.lastVoted := rfl
@[simp] theorem State.setVerify_confirmed (v : VerifyPass) : (s.setVerify v).confirmed = s.confirmed := rfl
@[simp] theorem State.setVerify_healthyPin (v : VerifyPass) : (s.setVerify v).healthyPin = s.healthyPin := rfl
@[simp] theorem State.setVerify_join (v : VerifyPass) : (s.setVerify v).join = s.join := rfl
@[simp] theorem State.setVerify_receive (v : VerifyPass) : (s.setVerify v).receive = s.receive := rfl
@[simp] theorem State.setVerify_transfer (v : VerifyPass) : (s.setVerify v).transfer = s.transfer := rfl
@[simp] theorem State.setVerify_x1 (v : VerifyPass) : (s.setVerify v).x1 = s.x1 := rfl
@[simp] theorem State.setVerify_x2 (v : VerifyPass) : (s.setVerify v).x2 = s.x2 := rfl
@[simp] theorem State.setVerify_laneInside (v : VerifyPass) : (s.setVerify v).laneInside = s.laneInside := rfl
@[simp] theorem State.setVerify_requests (v : VerifyPass) : (s.setVerify v).requests = s.requests := rfl
@[simp] theorem State.setVerify_immediate (v : VerifyPass) : (s.setVerify v).immediate = s.immediate := rfl
@[simp] theorem State.setVerify_notices (v : VerifyPass) : (s.setVerify v).notices = s.notices := rfl
@[simp] theorem State.setVerify_noticeDrops (v : VerifyPass) : (s.setVerify v).noticeDrops = s.noticeDrops := rfl
@[simp] theorem State.setVerify_replyDrops (v : VerifyPass) : (s.setVerify v).replyDrops = s.replyDrops := rfl
@[simp] theorem State.setVerify_laneTx (v : VerifyPass) : (s.setVerify v).laneTx = s.laneTx := rfl
@[simp] theorem State.setVerify_counters (v : VerifyPass) : (s.setVerify v).counters = s.counters := rfl
@[simp] theorem State.setVerify_masks (v : VerifyPass) : (s.setVerify v).masks = s.masks := rfl
@[simp] theorem State.setVerify_log (v : VerifyPass) : (s.setVerify v).log = s.log := rfl
@[simp] theorem State.setVerify_overrun (v : VerifyPass) : (s.setVerify v).overrun = s.overrun := rfl
@[simp] theorem State.setVerify_first (v : VerifyPass) : (s.setVerify v).first = s.first := rfl
@[simp] theorem State.setVerify_pending (v : VerifyPass) : (s.setVerify v).pending = s.pending := rfl

/-! ### setRecord -/

@[simp] theorem State.setRecord_part (l : Lane) (st : Standing) (m : Option Cycle) (x : Source) : (s.setRecord l st m x).part = s.part := rfl
@[simp] theorem State.setRecord_strap (l : Lane) (st : Standing) (m : Option Cycle) (x : Source) : (s.setRecord l st m x).strap = s.strap := rfl
@[simp] theorem State.setRecord_installation (l : Lane) (st : Standing) (m : Option Cycle) (x : Source) : (s.setRecord l st m x).installation = s.installation := rfl
@[simp] theorem State.setRecord_timings (l : Lane) (st : Standing) (m : Option Cycle) (x : Source) : (s.setRecord l st m x).timings = s.timings := rfl
@[simp] theorem State.setRecord_store (l : Lane) (st : Standing) (m : Option Cycle) (x : Source) : (s.setRecord l st m x).store = s.store := rfl
@[simp] theorem State.setRecord_clearNext (l : Lane) (st : Standing) (m : Option Cycle) (x : Source) : (s.setRecord l st m x).clearNext = s.clearNext := rfl
@[simp] theorem State.setRecord_storeGrant (l : Lane) (st : Standing) (m : Option Cycle) (x : Source) : (s.setRecord l st m x).storeGrant = s.storeGrant := rfl
@[simp] theorem State.setRecord_waiting (l : Lane) (st : Standing) (m : Option Cycle) (x : Source) : (s.setRecord l st m x).waiting = s.waiting := rfl
@[simp] theorem State.setRecord_loss (l : Lane) (st : Standing) (m : Option Cycle) (x : Source) : (s.setRecord l st m x).loss = s.loss := rfl
@[simp] theorem State.setRecord_tables (l : Lane) (st : Standing) (m : Option Cycle) (x : Source) : (s.setRecord l st m x).tables = s.tables := rfl
@[simp] theorem State.setRecord_establish (l : Lane) (st : Standing) (m : Option Cycle) (x : Source) : (s.setRecord l st m x).establish = s.establish := rfl
@[simp] theorem State.setRecord_fullCopy (l : Lane) (st : Standing) (m : Option Cycle) (x : Source) : (s.setRecord l st m x).fullCopy = s.fullCopy := rfl
@[simp] theorem State.setRecord_cycle (l : Lane) (st : Standing) (m : Option Cycle) (x : Source) : (s.setRecord l st m x).cycle = s.cycle := rfl
@[simp] theorem State.setRecord_changeList (l : Lane) (st : Standing) (m : Option Cycle) (x : Source) : (s.setRecord l st m x).changeList = s.changeList := rfl
@[simp] theorem State.setRecord_wide (l : Lane) (st : Standing) (m : Option Cycle) (x : Source) : (s.setRecord l st m x).wide = s.wide := rfl
@[simp] theorem State.setRecord_checkpointValid (l : Lane) (st : Standing) (m : Option Cycle) (x : Source) : (s.setRecord l st m x).checkpointValid = s.checkpointValid := rfl
@[simp] theorem State.setRecord_lostList (l : Lane) (st : Standing) (m : Option Cycle) (x : Source) : (s.setRecord l st m x).lostList = s.lostList := rfl
@[simp] theorem State.setRecord_close (l : Lane) (st : Standing) (m : Option Cycle) (x : Source) : (s.setRecord l st m x).close = s.close := rfl
@[simp] theorem State.setRecord_rollback (l : Lane) (st : Standing) (m : Option Cycle) (x : Source) : (s.setRecord l st m x).rollback = s.rollback := rfl
@[simp] theorem State.setRecord_scrubCursor (l : Lane) (st : Standing) (m : Option Cycle) (x : Source) : (s.setRecord l st m x).scrubCursor = s.scrubCursor := rfl
@[simp] theorem State.setRecord_scrubPasses (l : Lane) (st : Standing) (m : Option Cycle) (x : Source) : (s.setRecord l st m x).scrubPasses = s.scrubPasses := rfl
@[simp] theorem State.setRecord_scrubLag (l : Lane) (st : Standing) (m : Option Cycle) (x : Source) : (s.setRecord l st m x).scrubLag = s.scrubLag := rfl
@[simp] theorem State.setRecord_pace (l : Lane) (st : Standing) (m : Option Cycle) (x : Source) : (s.setRecord l st m x).pace = s.pace := rfl
@[simp] theorem State.setRecord_verify (l : Lane) (st : Standing) (m : Option Cycle) (x : Source) : (s.setRecord l st m x).verify = s.verify := rfl
@[simp] theorem State.setRecord_kept (l : Lane) (st : Standing) (m : Option Cycle) (x : Source) : (s.setRecord l st m x).kept = s.kept := rfl
@[simp] theorem State.setRecord_autoCount (l : Lane) (st : Standing) (m : Option Cycle) (x : Source) : (s.setRecord l st m x).autoCount = s.autoCount := rfl
@[simp] theorem State.setRecord_standings (l : Lane) (st : Standing) (m : Option Cycle) (x : Source) : (s.setRecord l st m x).standings = s.standings.set l { standing := st, activeFrom := m, source := some x } := rfl
@[simp] theorem State.setRecord_slotX1 (l : Lane) (st : Standing) (m : Option Cycle) (x : Source) : (s.setRecord l st m x).slotX1 = s.slotX1 := rfl
@[simp] theorem State.setRecord_slotX2 (l : Lane) (st : Standing) (m : Option Cycle) (x : Source) : (s.setRecord l st m x).slotX2 = s.slotX2 := rfl
@[simp] theorem State.setRecord_vote (l : Lane) (st : Standing) (m : Option Cycle) (x : Source) : (s.setRecord l st m x).vote = s.vote := rfl
@[simp] theorem State.setRecord_lastVoted (l : Lane) (st : Standing) (m : Option Cycle) (x : Source) : (s.setRecord l st m x).lastVoted = s.lastVoted := rfl
@[simp] theorem State.setRecord_confirmed (l : Lane) (st : Standing) (m : Option Cycle) (x : Source) : (s.setRecord l st m x).confirmed = s.confirmed := rfl
@[simp] theorem State.setRecord_healthyPin (l : Lane) (st : Standing) (m : Option Cycle) (x : Source) : (s.setRecord l st m x).healthyPin = s.healthyPin := rfl
@[simp] theorem State.setRecord_join (l : Lane) (st : Standing) (m : Option Cycle) (x : Source) : (s.setRecord l st m x).join = s.join := rfl
@[simp] theorem State.setRecord_receive (l : Lane) (st : Standing) (m : Option Cycle) (x : Source) : (s.setRecord l st m x).receive = s.receive := rfl
@[simp] theorem State.setRecord_transfer (l : Lane) (st : Standing) (m : Option Cycle) (x : Source) : (s.setRecord l st m x).transfer = s.transfer := rfl
@[simp] theorem State.setRecord_x1 (l : Lane) (st : Standing) (m : Option Cycle) (x : Source) : (s.setRecord l st m x).x1 = s.x1 := rfl
@[simp] theorem State.setRecord_x2 (l : Lane) (st : Standing) (m : Option Cycle) (x : Source) : (s.setRecord l st m x).x2 = s.x2 := rfl
@[simp] theorem State.setRecord_laneInside (l : Lane) (st : Standing) (m : Option Cycle) (x : Source) : (s.setRecord l st m x).laneInside = s.laneInside := rfl
@[simp] theorem State.setRecord_requests (l : Lane) (st : Standing) (m : Option Cycle) (x : Source) : (s.setRecord l st m x).requests = s.requests := rfl
@[simp] theorem State.setRecord_immediate (l : Lane) (st : Standing) (m : Option Cycle) (x : Source) : (s.setRecord l st m x).immediate = s.immediate := rfl
@[simp] theorem State.setRecord_notices (l : Lane) (st : Standing) (m : Option Cycle) (x : Source) : (s.setRecord l st m x).notices = s.notices := rfl
@[simp] theorem State.setRecord_noticeDrops (l : Lane) (st : Standing) (m : Option Cycle) (x : Source) : (s.setRecord l st m x).noticeDrops = s.noticeDrops := rfl
@[simp] theorem State.setRecord_replyDrops (l : Lane) (st : Standing) (m : Option Cycle) (x : Source) : (s.setRecord l st m x).replyDrops = s.replyDrops := rfl
@[simp] theorem State.setRecord_laneTx (l : Lane) (st : Standing) (m : Option Cycle) (x : Source) : (s.setRecord l st m x).laneTx = s.laneTx := rfl
@[simp] theorem State.setRecord_counters (l : Lane) (st : Standing) (m : Option Cycle) (x : Source) : (s.setRecord l st m x).counters = s.counters := rfl
@[simp] theorem State.setRecord_masks (l : Lane) (st : Standing) (m : Option Cycle) (x : Source) : (s.setRecord l st m x).masks = s.masks := rfl
@[simp] theorem State.setRecord_log (l : Lane) (st : Standing) (m : Option Cycle) (x : Source) : (s.setRecord l st m x).log = s.log := rfl
@[simp] theorem State.setRecord_overrun (l : Lane) (st : Standing) (m : Option Cycle) (x : Source) : (s.setRecord l st m x).overrun = s.overrun := rfl
@[simp] theorem State.setRecord_first (l : Lane) (st : Standing) (m : Option Cycle) (x : Source) : (s.setRecord l st m x).first = s.first := rfl
@[simp] theorem State.setRecord_pending (l : Lane) (st : Standing) (m : Option Cycle) (x : Source) : (s.setRecord l st m x).pending = s.pending := rfl

/-! ### beginLane -/

@[simp] theorem State.beginLane_part (f : LaneOut) : (s.beginLane f).part = s.part := rfl
@[simp] theorem State.beginLane_strap (f : LaneOut) : (s.beginLane f).strap = s.strap := rfl
@[simp] theorem State.beginLane_installation (f : LaneOut) : (s.beginLane f).installation = s.installation := rfl
@[simp] theorem State.beginLane_timings (f : LaneOut) : (s.beginLane f).timings = s.timings := rfl
@[simp] theorem State.beginLane_store (f : LaneOut) : (s.beginLane f).store = s.store := rfl
@[simp] theorem State.beginLane_clearNext (f : LaneOut) : (s.beginLane f).clearNext = s.clearNext := rfl
@[simp] theorem State.beginLane_storeGrant (f : LaneOut) : (s.beginLane f).storeGrant = s.storeGrant := rfl
@[simp] theorem State.beginLane_waiting (f : LaneOut) : (s.beginLane f).waiting = s.waiting := rfl
@[simp] theorem State.beginLane_loss (f : LaneOut) : (s.beginLane f).loss = s.loss := rfl
@[simp] theorem State.beginLane_tables (f : LaneOut) : (s.beginLane f).tables = s.tables := rfl
@[simp] theorem State.beginLane_establish (f : LaneOut) : (s.beginLane f).establish = s.establish := rfl
@[simp] theorem State.beginLane_fullCopy (f : LaneOut) : (s.beginLane f).fullCopy = s.fullCopy := rfl
@[simp] theorem State.beginLane_cycle (f : LaneOut) : (s.beginLane f).cycle = s.cycle := rfl
@[simp] theorem State.beginLane_changeList (f : LaneOut) : (s.beginLane f).changeList = s.changeList := rfl
@[simp] theorem State.beginLane_wide (f : LaneOut) : (s.beginLane f).wide = s.wide := rfl
@[simp] theorem State.beginLane_checkpointValid (f : LaneOut) : (s.beginLane f).checkpointValid = s.checkpointValid := rfl
@[simp] theorem State.beginLane_lostList (f : LaneOut) : (s.beginLane f).lostList = s.lostList := rfl
@[simp] theorem State.beginLane_close (f : LaneOut) : (s.beginLane f).close = s.close := rfl
@[simp] theorem State.beginLane_rollback (f : LaneOut) : (s.beginLane f).rollback = s.rollback := rfl
@[simp] theorem State.beginLane_scrubCursor (f : LaneOut) : (s.beginLane f).scrubCursor = s.scrubCursor := rfl
@[simp] theorem State.beginLane_scrubPasses (f : LaneOut) : (s.beginLane f).scrubPasses = s.scrubPasses := rfl
@[simp] theorem State.beginLane_scrubLag (f : LaneOut) : (s.beginLane f).scrubLag = s.scrubLag := rfl
@[simp] theorem State.beginLane_pace (f : LaneOut) : (s.beginLane f).pace = s.pace := rfl
@[simp] theorem State.beginLane_verify (f : LaneOut) : (s.beginLane f).verify = s.verify := rfl
@[simp] theorem State.beginLane_kept (f : LaneOut) : (s.beginLane f).kept = s.kept := rfl
@[simp] theorem State.beginLane_autoCount (f : LaneOut) : (s.beginLane f).autoCount = s.autoCount := rfl
@[simp] theorem State.beginLane_standings (f : LaneOut) : (s.beginLane f).standings = s.standings := rfl
@[simp] theorem State.beginLane_slotX1 (f : LaneOut) : (s.beginLane f).slotX1 = s.slotX1 := rfl
@[simp] theorem State.beginLane_slotX2 (f : LaneOut) : (s.beginLane f).slotX2 = s.slotX2 := rfl
@[simp] theorem State.beginLane_vote (f : LaneOut) : (s.beginLane f).vote = s.vote := rfl
@[simp] theorem State.beginLane_lastVoted (f : LaneOut) : (s.beginLane f).lastVoted = s.lastVoted := rfl
@[simp] theorem State.beginLane_confirmed (f : LaneOut) : (s.beginLane f).confirmed = s.confirmed := rfl
@[simp] theorem State.beginLane_healthyPin (f : LaneOut) : (s.beginLane f).healthyPin = s.healthyPin := rfl
@[simp] theorem State.beginLane_join (f : LaneOut) : (s.beginLane f).join = s.join := rfl
@[simp] theorem State.beginLane_receive (f : LaneOut) : (s.beginLane f).receive = s.receive := rfl
@[simp] theorem State.beginLane_transfer (f : LaneOut) : (s.beginLane f).transfer = s.transfer := rfl
@[simp] theorem State.beginLane_x1 (f : LaneOut) : (s.beginLane f).x1 = s.x1 := rfl
@[simp] theorem State.beginLane_x2 (f : LaneOut) : (s.beginLane f).x2 = s.x2 := rfl
@[simp] theorem State.beginLane_laneInside (f : LaneOut) : (s.beginLane f).laneInside = s.laneInside := rfl
@[simp] theorem State.beginLane_requests (f : LaneOut) : (s.beginLane f).requests = s.requests := rfl
@[simp] theorem State.beginLane_immediate (f : LaneOut) : (s.beginLane f).immediate = s.immediate := rfl
@[simp] theorem State.beginLane_notices (f : LaneOut) : (s.beginLane f).notices = s.notices := rfl
@[simp] theorem State.beginLane_noticeDrops (f : LaneOut) : (s.beginLane f).noticeDrops = s.noticeDrops := rfl
@[simp] theorem State.beginLane_replyDrops (f : LaneOut) : (s.beginLane f).replyDrops = s.replyDrops := rfl
@[simp] theorem State.beginLane_laneTx (f : LaneOut) : (s.beginLane f).laneTx = some { frame := f, bytes := f.bytes } := rfl
@[simp] theorem State.beginLane_counters (f : LaneOut) : (s.beginLane f).counters = s.counters := rfl
@[simp] theorem State.beginLane_masks (f : LaneOut) : (s.beginLane f).masks = s.masks := rfl
@[simp] theorem State.beginLane_log (f : LaneOut) : (s.beginLane f).log = s.log := rfl
@[simp] theorem State.beginLane_overrun (f : LaneOut) : (s.beginLane f).overrun = s.overrun := rfl
@[simp] theorem State.beginLane_first (f : LaneOut) : (s.beginLane f).first = s.first := rfl
@[simp] theorem State.beginLane_pending (f : LaneOut) : (s.beginLane f).pending = s.pending := rfl

/-! ### mapTable -/

@[simp] theorem State.mapTable_part (n : Nat) (f : Table → Table) : (s.mapTable n f).part = s.part := rfl
@[simp] theorem State.mapTable_strap (n : Nat) (f : Table → Table) : (s.mapTable n f).strap = s.strap := rfl
@[simp] theorem State.mapTable_installation (n : Nat) (f : Table → Table) : (s.mapTable n f).installation = s.installation := rfl
@[simp] theorem State.mapTable_timings (n : Nat) (f : Table → Table) : (s.mapTable n f).timings = s.timings := rfl
@[simp] theorem State.mapTable_store (n : Nat) (f : Table → Table) : (s.mapTable n f).store = s.store := rfl
@[simp] theorem State.mapTable_clearNext (n : Nat) (f : Table → Table) : (s.mapTable n f).clearNext = s.clearNext := rfl
@[simp] theorem State.mapTable_storeGrant (n : Nat) (f : Table → Table) : (s.mapTable n f).storeGrant = s.storeGrant := rfl
@[simp] theorem State.mapTable_waiting (n : Nat) (f : Table → Table) : (s.mapTable n f).waiting = s.waiting := rfl
@[simp] theorem State.mapTable_loss (n : Nat) (f : Table → Table) : (s.mapTable n f).loss = s.loss := rfl
@[simp] theorem State.mapTable_tables (n : Nat) (f : Table → Table) : (s.mapTable n f).tables = s.tables.map fun t => if t.number = n then f t else t := rfl
@[simp] theorem State.mapTable_establish (n : Nat) (f : Table → Table) : (s.mapTable n f).establish = s.establish := rfl
@[simp] theorem State.mapTable_fullCopy (n : Nat) (f : Table → Table) : (s.mapTable n f).fullCopy = s.fullCopy := rfl
@[simp] theorem State.mapTable_cycle (n : Nat) (f : Table → Table) : (s.mapTable n f).cycle = s.cycle := rfl
@[simp] theorem State.mapTable_changeList (n : Nat) (f : Table → Table) : (s.mapTable n f).changeList = s.changeList := rfl
@[simp] theorem State.mapTable_wide (n : Nat) (f : Table → Table) : (s.mapTable n f).wide = s.wide := rfl
@[simp] theorem State.mapTable_checkpointValid (n : Nat) (f : Table → Table) : (s.mapTable n f).checkpointValid = s.checkpointValid := rfl
@[simp] theorem State.mapTable_lostList (n : Nat) (f : Table → Table) : (s.mapTable n f).lostList = s.lostList := rfl
@[simp] theorem State.mapTable_close (n : Nat) (f : Table → Table) : (s.mapTable n f).close = s.close := rfl
@[simp] theorem State.mapTable_rollback (n : Nat) (f : Table → Table) : (s.mapTable n f).rollback = s.rollback := rfl
@[simp] theorem State.mapTable_scrubCursor (n : Nat) (f : Table → Table) : (s.mapTable n f).scrubCursor = s.scrubCursor := rfl
@[simp] theorem State.mapTable_scrubPasses (n : Nat) (f : Table → Table) : (s.mapTable n f).scrubPasses = s.scrubPasses := rfl
@[simp] theorem State.mapTable_scrubLag (n : Nat) (f : Table → Table) : (s.mapTable n f).scrubLag = s.scrubLag := rfl
@[simp] theorem State.mapTable_pace (n : Nat) (f : Table → Table) : (s.mapTable n f).pace = s.pace := rfl
@[simp] theorem State.mapTable_verify (n : Nat) (f : Table → Table) : (s.mapTable n f).verify = s.verify := rfl
@[simp] theorem State.mapTable_kept (n : Nat) (f : Table → Table) : (s.mapTable n f).kept = s.kept := rfl
@[simp] theorem State.mapTable_autoCount (n : Nat) (f : Table → Table) : (s.mapTable n f).autoCount = s.autoCount := rfl
@[simp] theorem State.mapTable_standings (n : Nat) (f : Table → Table) : (s.mapTable n f).standings = s.standings := rfl
@[simp] theorem State.mapTable_slotX1 (n : Nat) (f : Table → Table) : (s.mapTable n f).slotX1 = s.slotX1 := rfl
@[simp] theorem State.mapTable_slotX2 (n : Nat) (f : Table → Table) : (s.mapTable n f).slotX2 = s.slotX2 := rfl
@[simp] theorem State.mapTable_vote (n : Nat) (f : Table → Table) : (s.mapTable n f).vote = s.vote := rfl
@[simp] theorem State.mapTable_lastVoted (n : Nat) (f : Table → Table) : (s.mapTable n f).lastVoted = s.lastVoted := rfl
@[simp] theorem State.mapTable_confirmed (n : Nat) (f : Table → Table) : (s.mapTable n f).confirmed = s.confirmed := rfl
@[simp] theorem State.mapTable_healthyPin (n : Nat) (f : Table → Table) : (s.mapTable n f).healthyPin = s.healthyPin := rfl
@[simp] theorem State.mapTable_join (n : Nat) (f : Table → Table) : (s.mapTable n f).join = s.join := rfl
@[simp] theorem State.mapTable_receive (n : Nat) (f : Table → Table) : (s.mapTable n f).receive = s.receive := rfl
@[simp] theorem State.mapTable_transfer (n : Nat) (f : Table → Table) : (s.mapTable n f).transfer = s.transfer := rfl
@[simp] theorem State.mapTable_x1 (n : Nat) (f : Table → Table) : (s.mapTable n f).x1 = s.x1 := rfl
@[simp] theorem State.mapTable_x2 (n : Nat) (f : Table → Table) : (s.mapTable n f).x2 = s.x2 := rfl
@[simp] theorem State.mapTable_laneInside (n : Nat) (f : Table → Table) : (s.mapTable n f).laneInside = s.laneInside := rfl
@[simp] theorem State.mapTable_requests (n : Nat) (f : Table → Table) : (s.mapTable n f).requests = s.requests := rfl
@[simp] theorem State.mapTable_immediate (n : Nat) (f : Table → Table) : (s.mapTable n f).immediate = s.immediate := rfl
@[simp] theorem State.mapTable_notices (n : Nat) (f : Table → Table) : (s.mapTable n f).notices = s.notices := rfl
@[simp] theorem State.mapTable_noticeDrops (n : Nat) (f : Table → Table) : (s.mapTable n f).noticeDrops = s.noticeDrops := rfl
@[simp] theorem State.mapTable_replyDrops (n : Nat) (f : Table → Table) : (s.mapTable n f).replyDrops = s.replyDrops := rfl
@[simp] theorem State.mapTable_laneTx (n : Nat) (f : Table → Table) : (s.mapTable n f).laneTx = s.laneTx := rfl
@[simp] theorem State.mapTable_counters (n : Nat) (f : Table → Table) : (s.mapTable n f).counters = s.counters := rfl
@[simp] theorem State.mapTable_masks (n : Nat) (f : Table → Table) : (s.mapTable n f).masks = s.masks := rfl
@[simp] theorem State.mapTable_log (n : Nat) (f : Table → Table) : (s.mapTable n f).log = s.log := rfl
@[simp] theorem State.mapTable_overrun (n : Nat) (f : Table → Table) : (s.mapTable n f).overrun = s.overrun := rfl
@[simp] theorem State.mapTable_first (n : Nat) (f : Table → Table) : (s.mapTable n f).first = s.first := rfl
@[simp] theorem State.mapTable_pending (n : Nat) (f : Table → Table) : (s.mapTable n f).pending = s.pending := rfl

/-! ### checkpointAll -/

@[simp] theorem State.checkpointAll_part : (s.checkpointAll).part = s.part := rfl
@[simp] theorem State.checkpointAll_strap : (s.checkpointAll).strap = s.strap := rfl
@[simp] theorem State.checkpointAll_installation : (s.checkpointAll).installation = s.installation := rfl
@[simp] theorem State.checkpointAll_timings : (s.checkpointAll).timings = s.timings := rfl
@[simp] theorem State.checkpointAll_store : (s.checkpointAll).store = s.store := rfl
@[simp] theorem State.checkpointAll_clearNext : (s.checkpointAll).clearNext = s.clearNext := rfl
@[simp] theorem State.checkpointAll_storeGrant : (s.checkpointAll).storeGrant = s.storeGrant := rfl
@[simp] theorem State.checkpointAll_waiting : (s.checkpointAll).waiting = s.waiting := rfl
@[simp] theorem State.checkpointAll_loss : (s.checkpointAll).loss = s.loss := rfl
@[simp] theorem State.checkpointAll_tables : (s.checkpointAll).tables = s.tables.map Table.close := rfl
@[simp] theorem State.checkpointAll_establish : (s.checkpointAll).establish = s.establish := rfl
@[simp] theorem State.checkpointAll_fullCopy : (s.checkpointAll).fullCopy = s.fullCopy := rfl
@[simp] theorem State.checkpointAll_cycle : (s.checkpointAll).cycle = s.cycle := rfl
@[simp] theorem State.checkpointAll_changeList : (s.checkpointAll).changeList = s.changeList := rfl
@[simp] theorem State.checkpointAll_wide : (s.checkpointAll).wide = s.wide := rfl
@[simp] theorem State.checkpointAll_checkpointValid : (s.checkpointAll).checkpointValid = s.checkpointValid := rfl
@[simp] theorem State.checkpointAll_lostList : (s.checkpointAll).lostList = s.lostList := rfl
@[simp] theorem State.checkpointAll_close : (s.checkpointAll).close = s.close := rfl
@[simp] theorem State.checkpointAll_rollback : (s.checkpointAll).rollback = s.rollback := rfl
@[simp] theorem State.checkpointAll_scrubCursor : (s.checkpointAll).scrubCursor = s.scrubCursor := rfl
@[simp] theorem State.checkpointAll_scrubPasses : (s.checkpointAll).scrubPasses = s.scrubPasses := rfl
@[simp] theorem State.checkpointAll_scrubLag : (s.checkpointAll).scrubLag = s.scrubLag := rfl
@[simp] theorem State.checkpointAll_pace : (s.checkpointAll).pace = s.pace := rfl
@[simp] theorem State.checkpointAll_verify : (s.checkpointAll).verify = s.verify := rfl
@[simp] theorem State.checkpointAll_kept : (s.checkpointAll).kept = s.kept := rfl
@[simp] theorem State.checkpointAll_autoCount : (s.checkpointAll).autoCount = s.autoCount := rfl
@[simp] theorem State.checkpointAll_standings : (s.checkpointAll).standings = s.standings := rfl
@[simp] theorem State.checkpointAll_slotX1 : (s.checkpointAll).slotX1 = s.slotX1 := rfl
@[simp] theorem State.checkpointAll_slotX2 : (s.checkpointAll).slotX2 = s.slotX2 := rfl
@[simp] theorem State.checkpointAll_vote : (s.checkpointAll).vote = s.vote := rfl
@[simp] theorem State.checkpointAll_lastVoted : (s.checkpointAll).lastVoted = s.lastVoted := rfl
@[simp] theorem State.checkpointAll_confirmed : (s.checkpointAll).confirmed = s.confirmed := rfl
@[simp] theorem State.checkpointAll_healthyPin : (s.checkpointAll).healthyPin = s.healthyPin := rfl
@[simp] theorem State.checkpointAll_join : (s.checkpointAll).join = s.join := rfl
@[simp] theorem State.checkpointAll_receive : (s.checkpointAll).receive = s.receive := rfl
@[simp] theorem State.checkpointAll_transfer : (s.checkpointAll).transfer = s.transfer := rfl
@[simp] theorem State.checkpointAll_x1 : (s.checkpointAll).x1 = s.x1 := rfl
@[simp] theorem State.checkpointAll_x2 : (s.checkpointAll).x2 = s.x2 := rfl
@[simp] theorem State.checkpointAll_laneInside : (s.checkpointAll).laneInside = s.laneInside := rfl
@[simp] theorem State.checkpointAll_requests : (s.checkpointAll).requests = s.requests := rfl
@[simp] theorem State.checkpointAll_immediate : (s.checkpointAll).immediate = s.immediate := rfl
@[simp] theorem State.checkpointAll_notices : (s.checkpointAll).notices = s.notices := rfl
@[simp] theorem State.checkpointAll_noticeDrops : (s.checkpointAll).noticeDrops = s.noticeDrops := rfl
@[simp] theorem State.checkpointAll_replyDrops : (s.checkpointAll).replyDrops = s.replyDrops := rfl
@[simp] theorem State.checkpointAll_laneTx : (s.checkpointAll).laneTx = s.laneTx := rfl
@[simp] theorem State.checkpointAll_counters : (s.checkpointAll).counters = s.counters := rfl
@[simp] theorem State.checkpointAll_masks : (s.checkpointAll).masks = s.masks := rfl
@[simp] theorem State.checkpointAll_log : (s.checkpointAll).log = s.log := rfl
@[simp] theorem State.checkpointAll_overrun : (s.checkpointAll).overrun = s.overrun := rfl
@[simp] theorem State.checkpointAll_first : (s.checkpointAll).first = s.first := rfl
@[simp] theorem State.checkpointAll_pending : (s.checkpointAll).pending = s.pending := rfl

/-! ### drainBoth -/

@[simp] theorem State.drainBoth_part : (s.drainBoth).part = s.part := rfl
@[simp] theorem State.drainBoth_strap : (s.drainBoth).strap = s.strap := rfl
@[simp] theorem State.drainBoth_installation : (s.drainBoth).installation = s.installation := rfl
@[simp] theorem State.drainBoth_timings : (s.drainBoth).timings = s.timings := rfl
@[simp] theorem State.drainBoth_store : (s.drainBoth).store = s.store := rfl
@[simp] theorem State.drainBoth_clearNext : (s.drainBoth).clearNext = s.clearNext := rfl
@[simp] theorem State.drainBoth_storeGrant : (s.drainBoth).storeGrant = s.storeGrant := rfl
@[simp] theorem State.drainBoth_waiting : (s.drainBoth).waiting = s.waiting := rfl
@[simp] theorem State.drainBoth_loss : (s.drainBoth).loss = s.loss := rfl
@[simp] theorem State.drainBoth_tables : (s.drainBoth).tables = s.tables := rfl
@[simp] theorem State.drainBoth_establish : (s.drainBoth).establish = s.establish := rfl
@[simp] theorem State.drainBoth_fullCopy : (s.drainBoth).fullCopy = s.fullCopy := rfl
@[simp] theorem State.drainBoth_cycle : (s.drainBoth).cycle = s.cycle := rfl
@[simp] theorem State.drainBoth_changeList : (s.drainBoth).changeList = s.changeList := rfl
@[simp] theorem State.drainBoth_wide : (s.drainBoth).wide = s.wide := rfl
@[simp] theorem State.drainBoth_checkpointValid : (s.drainBoth).checkpointValid = s.checkpointValid := rfl
@[simp] theorem State.drainBoth_lostList : (s.drainBoth).lostList = s.lostList := rfl
@[simp] theorem State.drainBoth_close : (s.drainBoth).close = s.close := rfl
@[simp] theorem State.drainBoth_rollback : (s.drainBoth).rollback = s.rollback := rfl
@[simp] theorem State.drainBoth_scrubCursor : (s.drainBoth).scrubCursor = s.scrubCursor := rfl
@[simp] theorem State.drainBoth_scrubPasses : (s.drainBoth).scrubPasses = s.scrubPasses := rfl
@[simp] theorem State.drainBoth_scrubLag : (s.drainBoth).scrubLag = s.scrubLag := rfl
@[simp] theorem State.drainBoth_pace : (s.drainBoth).pace = s.pace := rfl
@[simp] theorem State.drainBoth_verify : (s.drainBoth).verify = s.verify := rfl
@[simp] theorem State.drainBoth_kept : (s.drainBoth).kept = s.kept := rfl
@[simp] theorem State.drainBoth_autoCount : (s.drainBoth).autoCount = s.autoCount := rfl
@[simp] theorem State.drainBoth_standings : (s.drainBoth).standings = s.standings := rfl
@[simp] theorem State.drainBoth_slotX1 : (s.drainBoth).slotX1 = s.slotX1 := rfl
@[simp] theorem State.drainBoth_slotX2 : (s.drainBoth).slotX2 = s.slotX2 := rfl
@[simp] theorem State.drainBoth_vote : (s.drainBoth).vote = s.vote := rfl
@[simp] theorem State.drainBoth_lastVoted : (s.drainBoth).lastVoted = s.lastVoted := rfl
@[simp] theorem State.drainBoth_confirmed : (s.drainBoth).confirmed = s.confirmed := rfl
@[simp] theorem State.drainBoth_healthyPin : (s.drainBoth).healthyPin = s.healthyPin := rfl
@[simp] theorem State.drainBoth_join : (s.drainBoth).join = s.join := rfl
@[simp] theorem State.drainBoth_receive : (s.drainBoth).receive = s.receive := rfl
@[simp] theorem State.drainBoth_transfer : (s.drainBoth).transfer = s.transfer := rfl
@[simp] theorem State.drainBoth_x1 : (s.drainBoth).x1 = s.x1.drain := rfl
@[simp] theorem State.drainBoth_x2 : (s.drainBoth).x2 = s.x2.drain := rfl
@[simp] theorem State.drainBoth_laneInside : (s.drainBoth).laneInside = s.laneInside := rfl
@[simp] theorem State.drainBoth_requests : (s.drainBoth).requests = s.requests := rfl
@[simp] theorem State.drainBoth_immediate : (s.drainBoth).immediate = s.immediate := rfl
@[simp] theorem State.drainBoth_notices : (s.drainBoth).notices = s.notices := rfl
@[simp] theorem State.drainBoth_noticeDrops : (s.drainBoth).noticeDrops = s.noticeDrops := rfl
@[simp] theorem State.drainBoth_replyDrops : (s.drainBoth).replyDrops = s.replyDrops := rfl
@[simp] theorem State.drainBoth_laneTx : (s.drainBoth).laneTx = s.laneTx := rfl
@[simp] theorem State.drainBoth_counters : (s.drainBoth).counters = s.counters := rfl
@[simp] theorem State.drainBoth_masks : (s.drainBoth).masks = s.masks := rfl
@[simp] theorem State.drainBoth_log : (s.drainBoth).log = s.log := rfl
@[simp] theorem State.drainBoth_overrun : (s.drainBoth).overrun = s.overrun := rfl
@[simp] theorem State.drainBoth_first : (s.drainBoth).first = s.first := rfl
@[simp] theorem State.drainBoth_pending : (s.drainBoth).pending = s.pending := rfl

/-! ### setPort -/

@[simp] theorem State.setPort_part (p : Port) (v : PortState) : (s.setPort p v).part = s.part := by cases p <;> rfl
@[simp] theorem State.setPort_strap (p : Port) (v : PortState) : (s.setPort p v).strap = s.strap := by cases p <;> rfl
@[simp] theorem State.setPort_installation (p : Port) (v : PortState) : (s.setPort p v).installation = s.installation := by cases p <;> rfl
@[simp] theorem State.setPort_timings (p : Port) (v : PortState) : (s.setPort p v).timings = s.timings := by cases p <;> rfl
@[simp] theorem State.setPort_store (p : Port) (v : PortState) : (s.setPort p v).store = s.store := by cases p <;> rfl
@[simp] theorem State.setPort_clearNext (p : Port) (v : PortState) : (s.setPort p v).clearNext = s.clearNext := by cases p <;> rfl
@[simp] theorem State.setPort_storeGrant (p : Port) (v : PortState) : (s.setPort p v).storeGrant = s.storeGrant := by cases p <;> rfl
@[simp] theorem State.setPort_waiting (p : Port) (v : PortState) : (s.setPort p v).waiting = s.waiting := by cases p <;> rfl
@[simp] theorem State.setPort_loss (p : Port) (v : PortState) : (s.setPort p v).loss = s.loss := by cases p <;> rfl
@[simp] theorem State.setPort_tables (p : Port) (v : PortState) : (s.setPort p v).tables = s.tables := by cases p <;> rfl
@[simp] theorem State.setPort_establish (p : Port) (v : PortState) : (s.setPort p v).establish = s.establish := by cases p <;> rfl
@[simp] theorem State.setPort_fullCopy (p : Port) (v : PortState) : (s.setPort p v).fullCopy = s.fullCopy := by cases p <;> rfl
@[simp] theorem State.setPort_cycle (p : Port) (v : PortState) : (s.setPort p v).cycle = s.cycle := by cases p <;> rfl
@[simp] theorem State.setPort_changeList (p : Port) (v : PortState) : (s.setPort p v).changeList = s.changeList := by cases p <;> rfl
@[simp] theorem State.setPort_wide (p : Port) (v : PortState) : (s.setPort p v).wide = s.wide := by cases p <;> rfl
@[simp] theorem State.setPort_checkpointValid (p : Port) (v : PortState) : (s.setPort p v).checkpointValid = s.checkpointValid := by cases p <;> rfl
@[simp] theorem State.setPort_lostList (p : Port) (v : PortState) : (s.setPort p v).lostList = s.lostList := by cases p <;> rfl
@[simp] theorem State.setPort_close (p : Port) (v : PortState) : (s.setPort p v).close = s.close := by cases p <;> rfl
@[simp] theorem State.setPort_rollback (p : Port) (v : PortState) : (s.setPort p v).rollback = s.rollback := by cases p <;> rfl
@[simp] theorem State.setPort_scrubCursor (p : Port) (v : PortState) : (s.setPort p v).scrubCursor = s.scrubCursor := by cases p <;> rfl
@[simp] theorem State.setPort_scrubPasses (p : Port) (v : PortState) : (s.setPort p v).scrubPasses = s.scrubPasses := by cases p <;> rfl
@[simp] theorem State.setPort_scrubLag (p : Port) (v : PortState) : (s.setPort p v).scrubLag = s.scrubLag := by cases p <;> rfl
@[simp] theorem State.setPort_pace (p : Port) (v : PortState) : (s.setPort p v).pace = s.pace := by cases p <;> rfl
@[simp] theorem State.setPort_verify (p : Port) (v : PortState) : (s.setPort p v).verify = s.verify := by cases p <;> rfl
@[simp] theorem State.setPort_kept (p : Port) (v : PortState) : (s.setPort p v).kept = s.kept := by cases p <;> rfl
@[simp] theorem State.setPort_autoCount (p : Port) (v : PortState) : (s.setPort p v).autoCount = s.autoCount := by cases p <;> rfl
@[simp] theorem State.setPort_standings (p : Port) (v : PortState) : (s.setPort p v).standings = s.standings := by cases p <;> rfl
@[simp] theorem State.setPort_slotX1 (p : Port) (v : PortState) : (s.setPort p v).slotX1 = s.slotX1 := by cases p <;> rfl
@[simp] theorem State.setPort_slotX2 (p : Port) (v : PortState) : (s.setPort p v).slotX2 = s.slotX2 := by cases p <;> rfl
@[simp] theorem State.setPort_vote (p : Port) (v : PortState) : (s.setPort p v).vote = s.vote := by cases p <;> rfl
@[simp] theorem State.setPort_lastVoted (p : Port) (v : PortState) : (s.setPort p v).lastVoted = s.lastVoted := by cases p <;> rfl
@[simp] theorem State.setPort_confirmed (p : Port) (v : PortState) : (s.setPort p v).confirmed = s.confirmed := by cases p <;> rfl
@[simp] theorem State.setPort_healthyPin (p : Port) (v : PortState) : (s.setPort p v).healthyPin = s.healthyPin := by cases p <;> rfl
@[simp] theorem State.setPort_join (p : Port) (v : PortState) : (s.setPort p v).join = s.join := by cases p <;> rfl
@[simp] theorem State.setPort_receive (p : Port) (v : PortState) : (s.setPort p v).receive = s.receive := by cases p <;> rfl
@[simp] theorem State.setPort_transfer (p : Port) (v : PortState) : (s.setPort p v).transfer = s.transfer := by cases p <;> rfl
@[simp] theorem State.setPort_laneInside (p : Port) (v : PortState) : (s.setPort p v).laneInside = s.laneInside := by cases p <;> rfl
@[simp] theorem State.setPort_requests (p : Port) (v : PortState) : (s.setPort p v).requests = s.requests := by cases p <;> rfl
@[simp] theorem State.setPort_immediate (p : Port) (v : PortState) : (s.setPort p v).immediate = s.immediate := by cases p <;> rfl
@[simp] theorem State.setPort_notices (p : Port) (v : PortState) : (s.setPort p v).notices = s.notices := by cases p <;> rfl
@[simp] theorem State.setPort_noticeDrops (p : Port) (v : PortState) : (s.setPort p v).noticeDrops = s.noticeDrops := by cases p <;> rfl
@[simp] theorem State.setPort_replyDrops (p : Port) (v : PortState) : (s.setPort p v).replyDrops = s.replyDrops := by cases p <;> rfl
@[simp] theorem State.setPort_laneTx (p : Port) (v : PortState) : (s.setPort p v).laneTx = s.laneTx := by cases p <;> rfl
@[simp] theorem State.setPort_counters (p : Port) (v : PortState) : (s.setPort p v).counters = s.counters := by cases p <;> rfl
@[simp] theorem State.setPort_masks (p : Port) (v : PortState) : (s.setPort p v).masks = s.masks := by cases p <;> rfl
@[simp] theorem State.setPort_log (p : Port) (v : PortState) : (s.setPort p v).log = s.log := by cases p <;> rfl
@[simp] theorem State.setPort_overrun (p : Port) (v : PortState) : (s.setPort p v).overrun = s.overrun := by cases p <;> rfl
@[simp] theorem State.setPort_first (p : Port) (v : PortState) : (s.setPort p v).first = s.first := by cases p <;> rfl
@[simp] theorem State.setPort_pending (p : Port) (v : PortState) : (s.setPort p v).pending = s.pending := by cases p <;> rfl

/-! ### setSlot -/

@[simp] theorem State.setSlot_part (p : Port) (v : Option PeerNotice) : (s.setSlot p v).part = s.part := by cases p <;> rfl
@[simp] theorem State.setSlot_strap (p : Port) (v : Option PeerNotice) : (s.setSlot p v).strap = s.strap := by cases p <;> rfl
@[simp] theorem State.setSlot_installation (p : Port) (v : Option PeerNotice) : (s.setSlot p v).installation = s.installation := by cases p <;> rfl
@[simp] theorem State.setSlot_timings (p : Port) (v : Option PeerNotice) : (s.setSlot p v).timings = s.timings := by cases p <;> rfl
@[simp] theorem State.setSlot_store (p : Port) (v : Option PeerNotice) : (s.setSlot p v).store = s.store := by cases p <;> rfl
@[simp] theorem State.setSlot_clearNext (p : Port) (v : Option PeerNotice) : (s.setSlot p v).clearNext = s.clearNext := by cases p <;> rfl
@[simp] theorem State.setSlot_storeGrant (p : Port) (v : Option PeerNotice) : (s.setSlot p v).storeGrant = s.storeGrant := by cases p <;> rfl
@[simp] theorem State.setSlot_waiting (p : Port) (v : Option PeerNotice) : (s.setSlot p v).waiting = s.waiting := by cases p <;> rfl
@[simp] theorem State.setSlot_loss (p : Port) (v : Option PeerNotice) : (s.setSlot p v).loss = s.loss := by cases p <;> rfl
@[simp] theorem State.setSlot_tables (p : Port) (v : Option PeerNotice) : (s.setSlot p v).tables = s.tables := by cases p <;> rfl
@[simp] theorem State.setSlot_establish (p : Port) (v : Option PeerNotice) : (s.setSlot p v).establish = s.establish := by cases p <;> rfl
@[simp] theorem State.setSlot_fullCopy (p : Port) (v : Option PeerNotice) : (s.setSlot p v).fullCopy = s.fullCopy := by cases p <;> rfl
@[simp] theorem State.setSlot_cycle (p : Port) (v : Option PeerNotice) : (s.setSlot p v).cycle = s.cycle := by cases p <;> rfl
@[simp] theorem State.setSlot_changeList (p : Port) (v : Option PeerNotice) : (s.setSlot p v).changeList = s.changeList := by cases p <;> rfl
@[simp] theorem State.setSlot_wide (p : Port) (v : Option PeerNotice) : (s.setSlot p v).wide = s.wide := by cases p <;> rfl
@[simp] theorem State.setSlot_checkpointValid (p : Port) (v : Option PeerNotice) : (s.setSlot p v).checkpointValid = s.checkpointValid := by cases p <;> rfl
@[simp] theorem State.setSlot_lostList (p : Port) (v : Option PeerNotice) : (s.setSlot p v).lostList = s.lostList := by cases p <;> rfl
@[simp] theorem State.setSlot_close (p : Port) (v : Option PeerNotice) : (s.setSlot p v).close = s.close := by cases p <;> rfl
@[simp] theorem State.setSlot_rollback (p : Port) (v : Option PeerNotice) : (s.setSlot p v).rollback = s.rollback := by cases p <;> rfl
@[simp] theorem State.setSlot_scrubCursor (p : Port) (v : Option PeerNotice) : (s.setSlot p v).scrubCursor = s.scrubCursor := by cases p <;> rfl
@[simp] theorem State.setSlot_scrubPasses (p : Port) (v : Option PeerNotice) : (s.setSlot p v).scrubPasses = s.scrubPasses := by cases p <;> rfl
@[simp] theorem State.setSlot_scrubLag (p : Port) (v : Option PeerNotice) : (s.setSlot p v).scrubLag = s.scrubLag := by cases p <;> rfl
@[simp] theorem State.setSlot_pace (p : Port) (v : Option PeerNotice) : (s.setSlot p v).pace = s.pace := by cases p <;> rfl
@[simp] theorem State.setSlot_verify (p : Port) (v : Option PeerNotice) : (s.setSlot p v).verify = s.verify := by cases p <;> rfl
@[simp] theorem State.setSlot_kept (p : Port) (v : Option PeerNotice) : (s.setSlot p v).kept = s.kept := by cases p <;> rfl
@[simp] theorem State.setSlot_autoCount (p : Port) (v : Option PeerNotice) : (s.setSlot p v).autoCount = s.autoCount := by cases p <;> rfl
@[simp] theorem State.setSlot_standings (p : Port) (v : Option PeerNotice) : (s.setSlot p v).standings = s.standings := by cases p <;> rfl
@[simp] theorem State.setSlot_vote (p : Port) (v : Option PeerNotice) : (s.setSlot p v).vote = s.vote := by cases p <;> rfl
@[simp] theorem State.setSlot_lastVoted (p : Port) (v : Option PeerNotice) : (s.setSlot p v).lastVoted = s.lastVoted := by cases p <;> rfl
@[simp] theorem State.setSlot_confirmed (p : Port) (v : Option PeerNotice) : (s.setSlot p v).confirmed = s.confirmed := by cases p <;> rfl
@[simp] theorem State.setSlot_healthyPin (p : Port) (v : Option PeerNotice) : (s.setSlot p v).healthyPin = s.healthyPin := by cases p <;> rfl
@[simp] theorem State.setSlot_join (p : Port) (v : Option PeerNotice) : (s.setSlot p v).join = s.join := by cases p <;> rfl
@[simp] theorem State.setSlot_receive (p : Port) (v : Option PeerNotice) : (s.setSlot p v).receive = s.receive := by cases p <;> rfl
@[simp] theorem State.setSlot_transfer (p : Port) (v : Option PeerNotice) : (s.setSlot p v).transfer = s.transfer := by cases p <;> rfl
@[simp] theorem State.setSlot_x1 (p : Port) (v : Option PeerNotice) : (s.setSlot p v).x1 = s.x1 := by cases p <;> rfl
@[simp] theorem State.setSlot_x2 (p : Port) (v : Option PeerNotice) : (s.setSlot p v).x2 = s.x2 := by cases p <;> rfl
@[simp] theorem State.setSlot_laneInside (p : Port) (v : Option PeerNotice) : (s.setSlot p v).laneInside = s.laneInside := by cases p <;> rfl
@[simp] theorem State.setSlot_requests (p : Port) (v : Option PeerNotice) : (s.setSlot p v).requests = s.requests := by cases p <;> rfl
@[simp] theorem State.setSlot_immediate (p : Port) (v : Option PeerNotice) : (s.setSlot p v).immediate = s.immediate := by cases p <;> rfl
@[simp] theorem State.setSlot_notices (p : Port) (v : Option PeerNotice) : (s.setSlot p v).notices = s.notices := by cases p <;> rfl
@[simp] theorem State.setSlot_noticeDrops (p : Port) (v : Option PeerNotice) : (s.setSlot p v).noticeDrops = s.noticeDrops := by cases p <;> rfl
@[simp] theorem State.setSlot_replyDrops (p : Port) (v : Option PeerNotice) : (s.setSlot p v).replyDrops = s.replyDrops := by cases p <;> rfl
@[simp] theorem State.setSlot_laneTx (p : Port) (v : Option PeerNotice) : (s.setSlot p v).laneTx = s.laneTx := by cases p <;> rfl
@[simp] theorem State.setSlot_counters (p : Port) (v : Option PeerNotice) : (s.setSlot p v).counters = s.counters := by cases p <;> rfl
@[simp] theorem State.setSlot_masks (p : Port) (v : Option PeerNotice) : (s.setSlot p v).masks = s.masks := by cases p <;> rfl
@[simp] theorem State.setSlot_log (p : Port) (v : Option PeerNotice) : (s.setSlot p v).log = s.log := by cases p <;> rfl
@[simp] theorem State.setSlot_overrun (p : Port) (v : Option PeerNotice) : (s.setSlot p v).overrun = s.overrun := by cases p <;> rfl
@[simp] theorem State.setSlot_first (p : Port) (v : Option PeerNotice) : (s.setSlot p v).first = s.first := by cases p <;> rfl
@[simp] theorem State.setSlot_pending (p : Port) (v : Option PeerNotice) : (s.setSlot p v).pending = s.pending := by cases p <;> rfl

@[simp] theorem State.setPort_port (p : Port) (v : PortState) : (s.setPort p v).port p = v := by cases p <;> rfl
theorem State.setPort_port_other (p q : Port) (v : PortState) (h : q ≠ p) : (s.setPort p v).port q = s.port q := by
  cases p <;> cases q <;> first | rfl | exact absurd rfl h
@[simp] theorem State.setPort_port_self (p : Port) : s.setPort p (s.port p) = s := by cases p <;> rfl
@[simp] theorem State.setSlot_slot (p : Port) (v : Option PeerNotice) : (s.setSlot p v).slot p = v := by cases p <;> rfl

/-! ### answer -/

/-- A reply changes the request queue and nothing else (R178). -/
theorem State.answer_touches (st : Status) (f : ReplyFields) :
    s.answer st f = { s with requests := (s.answer st f).requests } := by
  unfold State.answer; split <;> rfl

@[simp] theorem State.answer_part (st : Status) (f : ReplyFields) : (s.answer st f).part = s.part := by rw [State.answer_touches]
@[simp] theorem State.answer_strap (st : Status) (f : ReplyFields) : (s.answer st f).strap = s.strap := by rw [State.answer_touches]
@[simp] theorem State.answer_installation (st : Status) (f : ReplyFields) : (s.answer st f).installation = s.installation := by rw [State.answer_touches]
@[simp] theorem State.answer_timings (st : Status) (f : ReplyFields) : (s.answer st f).timings = s.timings := by rw [State.answer_touches]
@[simp] theorem State.answer_store (st : Status) (f : ReplyFields) : (s.answer st f).store = s.store := by rw [State.answer_touches]
@[simp] theorem State.answer_clearNext (st : Status) (f : ReplyFields) : (s.answer st f).clearNext = s.clearNext := by rw [State.answer_touches]
@[simp] theorem State.answer_storeGrant (st : Status) (f : ReplyFields) : (s.answer st f).storeGrant = s.storeGrant := by rw [State.answer_touches]
@[simp] theorem State.answer_waiting (st : Status) (f : ReplyFields) : (s.answer st f).waiting = s.waiting := by rw [State.answer_touches]
@[simp] theorem State.answer_loss (st : Status) (f : ReplyFields) : (s.answer st f).loss = s.loss := by rw [State.answer_touches]
@[simp] theorem State.answer_tables (st : Status) (f : ReplyFields) : (s.answer st f).tables = s.tables := by rw [State.answer_touches]
@[simp] theorem State.answer_establish (st : Status) (f : ReplyFields) : (s.answer st f).establish = s.establish := by rw [State.answer_touches]
@[simp] theorem State.answer_fullCopy (st : Status) (f : ReplyFields) : (s.answer st f).fullCopy = s.fullCopy := by rw [State.answer_touches]
@[simp] theorem State.answer_cycle (st : Status) (f : ReplyFields) : (s.answer st f).cycle = s.cycle := by rw [State.answer_touches]
@[simp] theorem State.answer_changeList (st : Status) (f : ReplyFields) : (s.answer st f).changeList = s.changeList := by rw [State.answer_touches]
@[simp] theorem State.answer_wide (st : Status) (f : ReplyFields) : (s.answer st f).wide = s.wide := by rw [State.answer_touches]
@[simp] theorem State.answer_checkpointValid (st : Status) (f : ReplyFields) : (s.answer st f).checkpointValid = s.checkpointValid := by rw [State.answer_touches]
@[simp] theorem State.answer_lostList (st : Status) (f : ReplyFields) : (s.answer st f).lostList = s.lostList := by rw [State.answer_touches]
@[simp] theorem State.answer_close (st : Status) (f : ReplyFields) : (s.answer st f).close = s.close := by rw [State.answer_touches]
@[simp] theorem State.answer_rollback (st : Status) (f : ReplyFields) : (s.answer st f).rollback = s.rollback := by rw [State.answer_touches]
@[simp] theorem State.answer_scrubCursor (st : Status) (f : ReplyFields) : (s.answer st f).scrubCursor = s.scrubCursor := by rw [State.answer_touches]
@[simp] theorem State.answer_scrubPasses (st : Status) (f : ReplyFields) : (s.answer st f).scrubPasses = s.scrubPasses := by rw [State.answer_touches]
@[simp] theorem State.answer_scrubLag (st : Status) (f : ReplyFields) : (s.answer st f).scrubLag = s.scrubLag := by rw [State.answer_touches]
@[simp] theorem State.answer_pace (st : Status) (f : ReplyFields) : (s.answer st f).pace = s.pace := by rw [State.answer_touches]
@[simp] theorem State.answer_verify (st : Status) (f : ReplyFields) : (s.answer st f).verify = s.verify := by rw [State.answer_touches]
@[simp] theorem State.answer_kept (st : Status) (f : ReplyFields) : (s.answer st f).kept = s.kept := by rw [State.answer_touches]
@[simp] theorem State.answer_autoCount (st : Status) (f : ReplyFields) : (s.answer st f).autoCount = s.autoCount := by rw [State.answer_touches]
@[simp] theorem State.answer_standings (st : Status) (f : ReplyFields) : (s.answer st f).standings = s.standings := by rw [State.answer_touches]
@[simp] theorem State.answer_slotX1 (st : Status) (f : ReplyFields) : (s.answer st f).slotX1 = s.slotX1 := by rw [State.answer_touches]
@[simp] theorem State.answer_slotX2 (st : Status) (f : ReplyFields) : (s.answer st f).slotX2 = s.slotX2 := by rw [State.answer_touches]
@[simp] theorem State.answer_vote (st : Status) (f : ReplyFields) : (s.answer st f).vote = s.vote := by rw [State.answer_touches]
@[simp] theorem State.answer_lastVoted (st : Status) (f : ReplyFields) : (s.answer st f).lastVoted = s.lastVoted := by rw [State.answer_touches]
@[simp] theorem State.answer_confirmed (st : Status) (f : ReplyFields) : (s.answer st f).confirmed = s.confirmed := by rw [State.answer_touches]
@[simp] theorem State.answer_healthyPin (st : Status) (f : ReplyFields) : (s.answer st f).healthyPin = s.healthyPin := by rw [State.answer_touches]
@[simp] theorem State.answer_join (st : Status) (f : ReplyFields) : (s.answer st f).join = s.join := by rw [State.answer_touches]
@[simp] theorem State.answer_receive (st : Status) (f : ReplyFields) : (s.answer st f).receive = s.receive := by rw [State.answer_touches]
@[simp] theorem State.answer_transfer (st : Status) (f : ReplyFields) : (s.answer st f).transfer = s.transfer := by rw [State.answer_touches]
@[simp] theorem State.answer_x1 (st : Status) (f : ReplyFields) : (s.answer st f).x1 = s.x1 := by rw [State.answer_touches]
@[simp] theorem State.answer_x2 (st : Status) (f : ReplyFields) : (s.answer st f).x2 = s.x2 := by rw [State.answer_touches]
@[simp] theorem State.answer_laneInside (st : Status) (f : ReplyFields) : (s.answer st f).laneInside = s.laneInside := by rw [State.answer_touches]
@[simp] theorem State.answer_immediate (st : Status) (f : ReplyFields) : (s.answer st f).immediate = s.immediate := by rw [State.answer_touches]
@[simp] theorem State.answer_notices (st : Status) (f : ReplyFields) : (s.answer st f).notices = s.notices := by rw [State.answer_touches]
@[simp] theorem State.answer_noticeDrops (st : Status) (f : ReplyFields) : (s.answer st f).noticeDrops = s.noticeDrops := by rw [State.answer_touches]
@[simp] theorem State.answer_replyDrops (st : Status) (f : ReplyFields) : (s.answer st f).replyDrops = s.replyDrops := by rw [State.answer_touches]
@[simp] theorem State.answer_laneTx (st : Status) (f : ReplyFields) : (s.answer st f).laneTx = s.laneTx := by rw [State.answer_touches]
@[simp] theorem State.answer_counters (st : Status) (f : ReplyFields) : (s.answer st f).counters = s.counters := by rw [State.answer_touches]
@[simp] theorem State.answer_masks (st : Status) (f : ReplyFields) : (s.answer st f).masks = s.masks := by rw [State.answer_touches]
@[simp] theorem State.answer_log (st : Status) (f : ReplyFields) : (s.answer st f).log = s.log := by rw [State.answer_touches]
@[simp] theorem State.answer_overrun (st : Status) (f : ReplyFields) : (s.answer st f).overrun = s.overrun := by rw [State.answer_touches]
@[simp] theorem State.answer_first (st : Status) (f : ReplyFields) : (s.answer st f).first = s.first := by rw [State.answer_touches]
@[simp] theorem State.answer_pending (st : Status) (f : ReplyFields) : (s.answer st f).pending = s.pending := by rw [State.answer_touches]

end Sys2Proof.Machine
end

