-- ==== Sys2Proof/Laws/Memory.lean ====
section
/-! SUPPORT. The store: a read after a write gives the word written, every other word is left alone, and every
operation keeps the canonical form. -/

namespace Sys2Proof.Machine
open Sys2Proof

theorem Memory.wfAbove_mono (low high : Nat) (m : Memory) (h : m.wfAbove high = true) (le : low ≤ high) :
    m.wfAbove low = true := by
  cases m with
  | nil => rfl
  | cons e rest =>
    obtain ⟨b, w⟩ := e
    simp only [Memory.wfAbove, Bool.and_eq_true, decide_eq_true_eq] at h ⊢
    exact ⟨⟨Nat.le_trans le h.1.1, h.1.2⟩, h.2⟩

theorem Memory.get_below (m : Memory) (low a : Nat) (h : m.wfAbove low = true) (lt : a < low) :
    m.get a = .unlisted := by
  induction m generalizing low with
  | nil => rfl
  | cons e rest ih =>
    obtain ⟨b, w⟩ := e
    simp only [Memory.wfAbove, Bool.and_eq_true, decide_eq_true_eq] at h
    have ne : a ≠ b := by omega
    simp only [Memory.get, if_neg ne]
    exact ih (b + 1) h.2 (by omega)

theorem Memory.set_wfAbove (m : Memory) (low a : Nat) (w : StoredWord) (h : m.wfAbove low = true) (le : low ≤ a) :
    (m.set a w).wfAbove low = true := by
  induction m generalizing low with
  | nil => by_cases hw : w = .unlisted <;> simp [Memory.set, Memory.wfAbove, hw, le]
  | cons e rest ih =>
    obtain ⟨b, v⟩ := e
    simp only [Memory.wfAbove, Bool.and_eq_true, decide_eq_true_eq, bne_iff_ne, ne_eq] at h
    obtain ⟨⟨hb, hv⟩, hrest⟩ := h
    simp only [Memory.set]
    split
    · split
      · simp [Memory.wfAbove, hb, hv, hrest]
      · simp only [Memory.wfAbove, Bool.and_eq_true, decide_eq_true_eq, bne_iff_ne, ne_eq]
        exact ⟨⟨le, ‹_›⟩, ⟨by omega, hv⟩, hrest⟩
    · split
      · split
        · exact Memory.wfAbove_mono low (b + 1) rest hrest (by omega)
        · subst_vars
          simp only [Memory.wfAbove, Bool.and_eq_true, decide_eq_true_eq, bne_iff_ne, ne_eq]
          exact ⟨⟨le, ‹_›⟩, hrest⟩
      · simp only [Memory.wfAbove, Bool.and_eq_true, decide_eq_true_eq, bne_iff_ne, ne_eq]
        exact ⟨⟨hb, hv⟩, ih (b + 1) hrest (by omega)⟩

/-- A write keeps the canonical form. -/
theorem Memory.set_wf (m : Memory) (a : Nat) (w : StoredWord) (h : m.wf = true) : (m.set a w).wf = true :=
  Memory.set_wfAbove m 0 a w h (Nat.zero_le a)

/-- A read after a write to the same address gives the word written. -/
theorem Memory.get_set_self (m : Memory) (low a : Nat) (w : StoredWord) (h : m.wfAbove low = true) :
    (m.set a w).get a = w := by
  induction m generalizing low with
  | nil => by_cases hw : w = .unlisted <;> simp [Memory.set, Memory.get, hw]
  | cons e rest ih =>
    obtain ⟨b, v⟩ := e
    simp only [Memory.wfAbove, Bool.and_eq_true, decide_eq_true_eq, bne_iff_ne, ne_eq] at h
    obtain ⟨-, hrest⟩ := h
    simp only [Memory.set]
    split
    · split
      · rename_i hlt hw
        rw [hw]
        have ne : a ≠ b := by omega
        simp only [Memory.get, if_neg ne]
        exact Memory.get_below rest (b + 1) a hrest (by omega)
      · simp [Memory.get]
    · split
      · split
        · rename_i heq hw
          rw [hw]
          exact Memory.get_below rest (b + 1) a hrest (by omega)
        · simp [Memory.get]
      · simp only [Memory.get, if_neg ‹¬a = b›]
        exact ih (b + 1) hrest

/-- A write leaves every other address alone. -/
theorem Memory.get_set_other (m : Memory) (a c : Nat) (w : StoredWord) (ne : c ≠ a) : (m.set a w).get c = m.get c := by
  induction m with
  | nil => by_cases hw : w = .unlisted <;> simp [Memory.set, Memory.get, hw, ne]
  | cons e rest ih =>
    obtain ⟨b, v⟩ := e
    simp only [Memory.set]
    split
    · split
      · rfl
      · simp [Memory.get, ne]
    · split
      · rename_i heq
        subst heq
        split <;> simp [Memory.get, ne]
      · simp only [Memory.get]
        rw [ih]

end Sys2Proof.Machine
end

