-- ==== Sys2Proof/Laws/Frames.lean ====
section
/-! SUPPORT. What each shared operation can change: an operation with few effects is said to be the state with just
those fields replaced; one that belongs to a fault or to a change of standing is said to leave the image alone. -/

namespace Sys2Proof.Machine
open Sys2Proof

/-! ### Operations with few effects -/

variable (s : State)

theorem State.enterChange_touches (a : Nat) :
    ∃ l w, s.enterChange a = { s with changeList := l, wide := w } := by
  unfold State.enterChange; split
  · exact ⟨_, _, rfl⟩
  · split <;> exact ⟨_, _, rfl⟩

theorem State.answerAtOnce_touches (k t : Byte) (st : Status) :
    ∃ q n, s.answerAtOnce k t st = { s with immediate := q, replyDrops := n } := by
  unfold State.answerAtOnce; split <;> exact ⟨_, _, rfl⟩

theorem State.notify_touches (n : Notice) :
    ∃ q d, s.notify n = { s with notices := q, noticeDrops := d } := by
  unfold State.notify; split
  · exact ⟨_, _, rfl⟩
  · split <;> exact ⟨_, _, rfl⟩

theorem State.setPort_touches (p : Port) (v : PortState) :
    ∃ x y, s.setPort p v = { s with x1 := x, x2 := y } := by
  cases p <;> exact ⟨_, _, rfl⟩

theorem State.sendControl_touches (p : Port) (m : ControlMsg) :
    ∃ x y, s.sendControl p m = { s with x1 := x, x2 := y } := s.setPort_touches p _

theorem State.sendBoth_touches (m : ControlMsg) : ∃ x y, s.sendBoth m = { s with x1 := x, x2 := y } := by
  obtain ⟨x, y, h⟩ := s.sendControl_touches .x1 m
  obtain ⟨x', y', h'⟩ := (s.sendControl .x1 m).sendControl_touches .x2 m
  exact ⟨x', y', by rw [State.sendBoth, h', h]⟩

theorem State.logFault_touches (e : FaultEntry) :
    ∃ c l o f q d, s.logFault e =
      { s with counters := c, log := l, overrun := o, first := f, notices := q, noticeDrops := d } := by
  unfold State.logFault
  dsimp only
  split
  · exact ⟨_, _, _, _, _, _, rfl⟩
  · obtain ⟨q, d, h⟩ := State.notify_touches
      { s with
        counters := s.counters.set e.kind.number (saturate Config.counterMax (s.counters.getD e.kind.number 0))
        log := (appendLog s.log s.overrun e).1, overrun := (appendLog s.log s.overrun e).2
        first := s.first.or (some e) }
      (.fault e (saturate Config.counterMax (s.counters.getD e.kind.number 0)))
    exact ⟨_, _, _, _, q, d, h⟩

theorem State.readWord_touches (a : Nat) (u : BitVec 22) :
    ∃ m c l o f q d, (s.readWord a u).1 =
      { s with store := m, counters := c, log := l, overrun := o, first := f, notices := q, noticeDrops := d } := by
  unfold State.readWord
  dsimp only
  split
  · exact ⟨_, _, _, _, _, _, _, rfl⟩
  · rename_i v _
    obtain ⟨c, l, o, f, q, d, h⟩ := State.logFault_touches
      { s.disturb a u with
        store := (s.disturb a u).store.set a ((s.disturb a u).store.get a).afterRead }
      ({ s.disturb a u with
        store := (s.disturb a u).store.set a ((s.disturb a u).store.get a).afterRead }.wordFault .wordCorrected a)
    exact ⟨_, c, l, o, f, q, d, h⟩
  · exact ⟨_, _, _, _, _, _, _, rfl⟩

theorem State.setOwn_touches (st : Standing) (m : Option Cycle) (x : Source) :
    ∃ t, s.setOwn st m x = { s with standings := t } := by
  unfold State.setOwn; split <;> exact ⟨_, rfl⟩

theorem State.discardStray_touches : ∃ x y, s.discardStray = { s with x1 := x, x2 := y } := by
  unfold State.discardStray
  dsimp only
  split <;> split <;> exact ⟨_, _, rfl⟩

theorem State.freeProcessing_touches :
    ∃ x y r, s.freeProcessing = { s with x1 := x, x2 := y, receive := r } := by
  unfold State.freeProcessing
  split
  · rename_i r _
    split
    · obtain ⟨x, y, h⟩ := s.setPort_touches r.port ((s.port r.port).creditBulk 1)
      rw [h]
      exact ⟨_, _, _, rfl⟩
    · exact ⟨_, _, _, rfl⟩
  · exact ⟨_, _, _, rfl⟩

theorem State.abortClose_touches :
    ∃ w l c v, s.abortClose = { s with waiting := w, loss := l, close := c, checkpointValid := v } := by
  unfold State.abortClose; split <;> exact ⟨_, _, _, _, rfl⟩

/-! ### The verify unit -/

theorem State.dropVerify_notify_touches (v : VerifyPass) (n : Notice) :
    ∃ w l q d, ({ s.dropVerify with kept := v.results }.notify n) =
      { s with waiting := w, loss := l, verify := none, kept := v.results, notices := q, noticeDrops := d } := by
  obtain ⟨q, d, h⟩ := State.notify_touches { s.dropVerify with kept := v.results } n
  exact ⟨_, _, q, d, h⟩

theorem State.completeVerify_touches :
    ∃ w l v k q d, s.completeVerify =
      { s with waiting := w, loss := l, verify := v, kept := k, notices := q, noticeDrops := d } := by
  unfold State.completeVerify
  split
  · exact ⟨_, _, _, _, _, _, rfl⟩
  · rename_i v _
    split
    · exact ⟨_, _, _, _, _, _, rfl⟩
    · obtain ⟨w, l, q, d, h⟩ := s.dropVerify_notify_touches v
        (.verify .complete v.origin v.startCycle s.cycle v.results none)
      exact ⟨w, l, _, _, q, d, h⟩

/-- A table that ends SKIPPED changes no table and records nothing (R95). -/
theorem State.skipVerifyTable_touches :
    ∃ w l v k q d, s.skipVerifyTable =
      { s with waiting := w, loss := l, verify := v, kept := k, notices := q, noticeDrops := d } := by
  unfold State.skipVerifyTable
  split
  · exact ⟨_, _, _, _, _, _, rfl⟩
  · simp only [State.endVerifyTable]
    split
    · exact ⟨_, _, _, _, _, _, rfl⟩
    · simp only [State.verdict, Bool.true_or, if_true, State.applyVerdict, State.recordDrift]
      obtain ⟨w, l, v, k, q, d, h⟩ := State.completeVerify_touches _
      exact ⟨w, l, v, k, q, d, h⟩

/-- What asking for the first read of a pass can change (R90, R92). -/
theorem State.askVerify_touches (n : Nat) :
    ∃ w l v k q d, s.askVerify n =
      { s with waiting := w, loss := l, verify := v, kept := k, notices := q, noticeDrops := d } := by
  induction n generalizing s with
  | zero => exact ⟨_, _, _, _, _, _, rfl⟩
  | succ n ih =>
    unfold State.askVerify
    split
    · split
      · obtain ⟨_, _, _, _, _, _, h⟩ := s.skipVerifyTable_touches
        obtain ⟨w, l, v, k, q, d, h'⟩ := ih s.skipVerifyTable
        exact ⟨w, l, v, k, q, d, by rw [h', h]⟩
      · exact ⟨_, _, _, _, _, _, rfl⟩
    · exact ⟨_, _, _, _, _, _, rfl⟩

/-- What the start of a pass can change (R90). -/
theorem State.startVerify_touches (origin : VerifyOrigin) :
    ∃ w l v k q d, s.startVerify origin =
      { s with waiting := w, loss := l, verify := v, kept := k, notices := q, noticeDrops := d, autoCount := 0 } := by
  unfold State.startVerify
  split
  · obtain ⟨q, d, h⟩ := State.notify_touches { s with autoCount := 0, kept := [] }
      (.verify .complete origin s.cycle s.cycle [] none)
    exact ⟨_, _, _, _, q, d, h⟩
  · obtain ⟨w, l, v, k, q, d, h⟩ := State.askVerify_touches _ _
    exact ⟨w, l, v, k, q, d, h⟩

/-! ### What faults and changes of standing leave alone -/

theorem SameImage.refl (s : State) : SameImage s s := by constructor <;> rfl

theorem SameImage.trans {s t u : State} (h : SameImage s t) (k : SameImage t u) : SameImage s u := by
  constructor <;> first
    | exact k.strap.trans h.strap | exact k.installation.trans h.installation | exact k.timings.trans h.timings
    | exact k.store.trans h.store | exact k.clearNext.trans h.clearNext | exact k.storeGrant.trans h.storeGrant
    | exact k.tables.trans h.tables | exact k.establish.trans h.establish | exact k.fullCopy.trans h.fullCopy
    | exact k.cycle.trans h.cycle | exact k.changeList.trans h.changeList | exact k.wide.trans h.wide
    | exact k.lostList.trans h.lostList | exact k.rollback.trans h.rollback
    | exact k.scrubCursor.trans h.scrubCursor | exact k.scrubPasses.trans h.scrubPasses
    | exact k.scrubLag.trans h.scrubLag | exact k.pace.trans h.pace | exact k.verify.trans h.verify
    | exact k.kept.trans h.kept | exact k.autoCount.trans h.autoCount | exact k.laneInside.trans h.laneInside
    | exact k.requests.trans h.requests | exact k.immediate.trans h.immediate
    | exact k.replyDrops.trans h.replyDrops | exact k.laneTx.trans h.laneTx | exact k.masks.trans h.masks
    | exact k.pending.trans h.pending

theorem State.notify_image (n : Notice) : SameImage s (s.notify n) := by
  obtain ⟨_, _, h⟩ := s.notify_touches n
  rw [h]; constructor <;> rfl

theorem State.setPort_image (p : Port) (v : PortState) : SameImage s (s.setPort p v) := by
  obtain ⟨_, _, h⟩ := s.setPort_touches p v
  rw [h]; constructor <;> rfl

theorem State.sendControl_image (p : Port) (m : ControlMsg) : SameImage s (s.sendControl p m) := s.setPort_image p _

theorem State.sendBoth_image (m : ControlMsg) : SameImage s (s.sendBoth m) := by
  obtain ⟨_, _, h⟩ := s.sendBoth_touches m
  rw [h]; constructor <;> rfl

theorem State.logFault_image (e : FaultEntry) : SameImage s (s.logFault e) := by
  obtain ⟨_, _, _, _, _, _, h⟩ := s.logFault_touches e
  rw [h]; constructor <;> rfl

theorem State.setOwn_image (st : Standing) (m : Option Cycle) (x : Source) : SameImage s (s.setOwn st m x) := by
  obtain ⟨_, h⟩ := s.setOwn_touches st m x
  rw [h]; constructor <;> rfl

theorem State.setRecord_image (l : Lane) (st : Standing) (m : Option Cycle) (x : Source) :
    SameImage s (s.setRecord l st m x) := by constructor <;> rfl

theorem State.withdraw_image (r : Requester) : SameImage s (s.withdraw r) := by constructor <;> rfl

theorem State.setSlot_image (p : Port) (n : Option PeerNotice) : SameImage s (s.setSlot p n) := by
  cases p <;> constructor <;> rfl

theorem State.emptySlot_image (l : Lane) : SameImage s (s.emptySlot l) := by
  unfold State.emptySlot; split
  · exact s.setSlot_image _ _
  · exact .refl s

theorem State.sendStandings_image : SameImage s s.sendStandings := s.sendBoth_image _

theorem State.discardStray_image : SameImage s s.discardStray := by
  obtain ⟨_, _, h⟩ := s.discardStray_touches
  rw [h]; constructor <;> rfl

theorem State.freeProcessing_image : SameImage s s.freeProcessing := by
  obtain ⟨_, _, _, h⟩ := s.freeProcessing_touches
  rw [h]; constructor <;> rfl

theorem State.abortClose_image : SameImage s s.abortClose := by
  obtain ⟨_, _, _, _, h⟩ := s.abortClose_touches
  rw [h]; constructor <;> rfl

theorem State.leaveActive_image (part : PartState) (src : Source) : SameImage s (s.leaveActive part src) := by
  unfold State.leaveActive
  exact SameImage.trans (by constructor <;> rfl) ((State.setOwn_image _ _ _ _).trans (State.sendStandings_image _))

theorem State.enterExcluded_image (src : Source) : SameImage s (s.enterExcluded src) := by
  unfold State.enterExcluded
  exact SameImage.trans (by constructor <;> rfl) ((State.setOwn_image _ _ _ _).trans (State.sendStandings_image _))

theorem State.haltInstallation_image : SameImage s s.haltInstallation := by
  unfold State.haltInstallation
  exact SameImage.trans (by constructor <;> rfl) ((State.setOwn_image _ _ _ _).trans (State.sendStandings_image _))

theorem standingChecks_image (c : Caused) : SameImage c.1 (standingChecks c).1 := by
  unfold standingChecks
  dsimp only
  split <;> split <;> first
    | exact (c.1.leaveActive_image _ _).trans (State.haltInstallation_image _)
    | exact c.1.leaveActive_image _ _
    | exact c.1.haltInstallation_image
    | exact .refl _

theorem announce_image (before : Standings) (c : Caused) : SameImage c.1 (announce before c) := by
  unfold announce
  dsimp only
  split
  · exact .refl _
  · exact c.1.notify_image _

theorem State.sendAbort_image (p : Port) (abort : Option AbortReason) : SameImage s (s.sendAbort p abort) := by
  cases abort
  · exact .refl s
  · exact s.sendControl_image _ _

theorem State.endServing_image (why : ServingEnd) (abort : Option AbortReason) :
    SameImage s (s.endServing why abort) := by
  unfold State.endServing
  split
  · exact .refl _
  · refine SameImage.trans ?_ (State.notify_image _ _)
    exact ((s.sendAbort_image _ abort).trans (State.setPort_image _ _ _)).trans (by constructor <;> rfl)

theorem State.servingAfterStandings_image : SameImage s s.servingAfterStandings := by
  unfold State.servingAfterStandings
  split
  · exact .refl _
  · split
    · exact s.endServing_image _ _
    · exact s.endServing_image _ _
    · exact s.endServing_image _ _
    all_goals
      split
      · exact .refl _
      · exact s.endServing_image _ _

theorem State.recordFailed_image (l : Option Lane) (why : ResyncReason) : SameImage s (s.recordFailed l why) :=
  s.logFault_image _

theorem State.failJoin_image (why : ResyncReason) : SameImage s (s.failJoin why) := by
  unfold State.failJoin
  split
  · exact .refl _
  · refine SameImage.trans ?_ (State.notify_image _ _)
    refine SameImage.trans ?_ (State.recordFailed_image _ _ _)
    refine SameImage.trans ?_ (announce_image _ _)
    refine SameImage.trans ?_ (standingChecks_image _)
    exact SameImage.trans (by constructor <;> rfl) (State.enterExcluded_image _ _)

theorem endFill_image (r : ReceiveRecord) : SameImage s (endFill s r).1 := by
  refine SameImage.trans ?_ (standingChecks_image _)
  exact SameImage.trans (by constructor <;> rfl) (State.enterExcluded_image _ _)

theorem State.fillNotice_image (r : ReceiveRecord) : SameImage s (s.fillNotice r) :=
  (s.notify_image _).trans (State.discardStray_image _)

theorem State.finishFill_image : SameImage s s.finishFill := by
  unfold State.finishFill
  split
  · exact .refl _
  · exact ((endFill_image s _).trans (announce_image _ _)).trans (State.fillNotice_image _ _)

theorem closeStandings_image (before : Standings) (c : Caused) : SameImage c.1 (closeStandings before c) := by
  unfold closeStandings
  split
  · exact (((endFill_image c.1 _).trans (announce_image before _)).trans
      (State.servingAfterStandings_image _)).trans (State.fillNotice_image _ _)
  · exact (announce_image before c).trans (State.servingAfterStandings_image _)

theorem State.enterFailing_image (r : ReceiveRecord) (why : ResyncReason) : SameImage s (s.enterFailing r why) := by
  unfold State.enterFailing
  refine SameImage.trans ?_ (State.abortClose_image _)
  refine SameImage.trans ?_ (State.withdraw_image _ _)
  exact SameImage.trans s.freeProcessing_image (by constructor <;> rfl)

theorem State.beginFailing_image (why : ResyncReason) (abort : Option AbortReason) :
    SameImage s (s.beginFailing why abort) := by
  unfold State.beginFailing
  split
  · exact .refl _
  · rename_i r _
    split
    · exact .refl _
    · exact (((s.enterFailing_image r why).trans (State.sendAbort_image _ r.port abort)).trans
        (State.recordFailed_image _ (some r.donor) why)).trans (State.discardStray_image _)

theorem State.failResync_image (why : ResyncReason) (abort : Option AbortReason) :
    SameImage s (s.failResync why abort) := by
  unfold State.failResync
  dsimp only
  split
  · exact (s.beginFailing_image why abort).trans (State.finishFill_image _)
  · exact s.beginFailing_image why abort

theorem State.laneFatal_image (k : FaultKind) : SameImage s (s.laneFatal k) := by
  unfold State.laneFatal
  split
  · exact ((s.leaveActive_image _ _).trans
      (standingChecks_image (s.leaveActive .excluded .selfReport, some (.fault k)))).trans (closeStandings_image _ _)
  · exact s.failJoin_image _
  · exact s.failResync_image _ _
  all_goals exact .refl _

/-- Recording a fault, with every consequence it has, leaves the image alone (R166, R173). -/
theorem State.record_image (e : FaultEntry) : SameImage s (s.record e) := by
  unfold State.record
  split
  · exact (s.logFault_image e).trans (State.laneFatal_image _ _)
  · exact s.logFault_image e

end Sys2Proof.Machine
end

