-- ==== Sys2Proof/Laws/Decisions.lean ====
section
/-! SUPPORT. What the shared operations of a loss decision do to the flags, each as one update of the state. -/

namespace Sys2Proof.Machine
open Sys2Proof

variable (s : State)

theorem State.spoilClose_eq :
    s.spoilClose = { s with close := s.close.map fun c => { c with spoiled := true } } := by
  unfold State.spoilClose
  split <;> rename_i h <;> simp [h]
  rw [← h]

theorem State.spoilFullCopy_eq :
    s.spoilFullCopy = { s with fullCopy := s.fullCopy.map fun f => { f with spoiled := true } } := by
  unfold State.spoilFullCopy
  split <;> rename_i h <;> simp [h]
  rw [← h]

theorem State.spoilNextCopy_eq :
    s.spoilNextCopy = { s with
      establish := if s.part = .starting then s.establish.map fun e => { e with spoiled := true } else s.establish } := by
  unfold State.spoilNextCopy
  split <;> rename_i h
  · split <;> simp [h]
    rw [← h]
  · simp [h]
    rw [← h]

/-- Checkpoint-valid set false, and no rollback that it could end: the close is spoiled (R57). -/
theorem State.invalidate_of_no_rollback (h : s.checkpointValid = false ∨ s.rollback = none) :
    s.invalidate = { s with checkpointValid := false, close := s.close.map fun c => { c with spoiled := true } } := by
  unfold State.invalidate
  rcases h with h | h <;> simp [State.spoilClose_eq, h]

/-- Checkpoint-valid set false ends a rollback that held a valid checkpoint, with NO CHECKPOINT (R69). -/
theorem State.invalidate_of_rollback {r : RollbackRecord} (valid : s.checkpointValid = true)
    (h : s.rollback = some r) :
    s.invalidate = (({ s with
      checkpointValid := false, close := s.close.map fun c => { c with spoiled := true }
      rollback := none } : State).withdraw .cycle).answer .noCheckpoint (.count r.restored) := by
  unfold State.invalidate
  simp only [State.spoilClose_eq, valid, h]
  rfl

theorem State.decisionFlags_eq (address : Nat) :
    s.decisionFlags address = if (s.tableAt (pairOf address)).isSome then
      { s with
        fullCopy := s.fullCopy.map fun f => { f with spoiled := true }
        checkpointValid := if s.part = .config then false else s.checkpointValid }
      else s := by
  unfold State.decisionFlags
  split <;> rename_i h <;> simp only [h, Option.isSome, State.spoilFullCopy_eq]
  · rfl
  · split <;> simp_all

theorem State.replacementFlags_eq (address : Nat) :
    s.replacementFlags address = if (s.tableAt (pairOf address)).isSome then
      { s with
        fullCopy := s.fullCopy.map fun f => { f with spoiled := true }
        checkpointValid := if s.part = .config then false else s.checkpointValid
        establish := if s.part = .starting then s.establish.map fun e => { e with spoiled := true } else s.establish }
      else s := by
  unfold State.replacementFlags
  split <;> rename_i h <;> simp [State.decisionFlags_eq, State.spoilNextCopy_eq, h]

/-- A clearing write to a free word is a store write and nothing else (R76). -/
theorem State.clearWrite_free (address : Nat) (v : Word) (h : s.tableAt (pairOf address) = none) :
    s.clearWrite address v = s.writeWord address v := by
  have h' : (s.writeWord address v).tableAt (pairOf address) = none := h
  simp [State.clearWrite, State.replacementFlags_eq, h']

end Sys2Proof.Machine
end

