-- ==== Sys2Proof/Laws/Grants.lean ====
section
/-! SUPPORT. What a grant of the arbiter and the end of an event can do, said once (R7, R110, R179). -/

namespace Sys2Proof.Machine
open Sys2Proof

variable (s : State)

/-- Asking changes nothing but who waits (R7). -/
theorem State.ask_touches (rs : List Requester) : ∃ w, s.ask rs = { s with waiting := w } := by
  induction rs generalizing s with
  | nil => exact ⟨s.waiting, rfl⟩
  | cons r rest ih =>
    unfold State.ask
    split
    · obtain ⟨w, h⟩ := ih { s with waiting := s.waiting.set r true }
      exact ⟨w, h⟩
    · exact ih s

/-- A requester whose access is already waiting looks at nothing: the access is made (R75, R94). -/
theorem State.looksLost_of_waiting {r : Requester} (h : s.waiting.get r = true) : s.looksLost r = false := by
  simp [State.looksLost, h]

/-- A grant is made only outside the store clear, to a requester that waits, for the access it has next; nothing but
who waits has changed (R7, R9). -/
theorem State.grant_spec {g : Grant} {access : Access} {r : Requester} {t : State}
    (h : s.grant g access = some (r, t)) :
    s.storeGrant = .free ∧ (s.ask g.asks).firstWaiting = some r ∧ (s.ask g.asks).nextAccess r = some access
      ∧ t = { s.ask g.asks with waiting := (s.ask g.asks).waiting.set r false } := by
  unfold State.grant at h
  split at h
  · cases h
  · rename_i free
    dsimp only at h
    split at h
    · rename_i q first
      split at h
      · rename_i next
        cases h
        exact ⟨free, first, next, rfl⟩
      · cases h
    · cases h

/-- The grant of an access of ordinary work: besides who waits, the requester's retry is over (R75). -/
theorem State.grantWork_touches {g : Grant} {r : Requester} {access : Access} {t : State}
    (h : s.grantWork g r access = some t) :
    s.storeGrant = .free ∧ ∃ w, t = { s with waiting := w, loss := s.loss.set r .idle } := by
  unfold State.grantWork at h
  split at h
  · rename_i q u made
    obtain ⟨free, -, -, rfl⟩ := s.grant_spec made
    obtain ⟨w, asked⟩ := s.ask_touches g.asks
    cases h
    exact ⟨free, w.set q false, by rw [asked]; rfl⟩
  · cases h

/-- Beginning a frame touches the port alone (R100). -/
theorem State.begin_touches (p : Port) (m : CrossMsg) : ∃ x y, s.begin p m = { s with x1 := x, x2 := y } :=
  s.setPort_touches p _

/-- The resync unit's offer touches the transfer and the port alone (R149). -/
theorem State.offerBulk_touches (t : TransferRecord) :
    ∃ x y r, s.offerBulk t = { s with x1 := x, x2 := y, transfer := r } := by
  have bulk : ∀ (u : State) (p : Port) (m : BulkMsg), ∃ x y, u.beginBulk p m = { u with x1 := x, x2 := y } := by
    intro u p m
    unfold State.beginBulk
    obtain ⟨x, y, h⟩ := u.begin_touches p (.bulk m)
    dsimp only
    rw [h]
    obtain ⟨x', y', h'⟩ := State.setPort_touches { u with x1 := x, x2 := y } p
      { ({ u with x1 := x, x2 := y } : State).port p with
        outstandingBulk := (({ u with x1 := x, x2 := y } : State).port p).outstandingBulk + 1 }
    exact ⟨x', y', h'⟩
  unfold State.offerBulk
  split
  · split
    · split
      · rename_i b _ _
        obtain ⟨x, y, h⟩ := bulk (s.setTransfer
          { t with block := none, wordsSent := saturateBy Config.counterMax t.wordsSent b.values.length }) t.port
            (.imageBlock b.table b.first b.values)
        exact ⟨x, y, _, h⟩
      · exact ⟨s.x1, s.x2, s.transfer, rfl⟩
    · split
      · dsimp only
        obtain ⟨x, y, h⟩ := bulk (s.setTransfer _) t.port _
        exact ⟨x, y, _, h⟩
      · split
        · unfold State.beginBlock
          split
          · exact ⟨s.x1, s.x2, _, rfl⟩
          · exact ⟨s.x1, s.x2, s.transfer, rfl⟩
        · exact ⟨s.x1, s.x2, s.transfer, rfl⟩
  · exact ⟨s.x1, s.x2, s.transfer, rfl⟩

/-- A cross-link transmitter touches the ports and the transfer alone (R110). -/
theorem State.kickPort_touches (p : Port) : ∃ x y r, s.kickPort p = { s with x1 := x, x2 := y, transfer := r } := by
  have start : ∀ (u : State) (m : CrossMsg), (∃ x y, u = { s with x1 := x, x2 := y }) →
      ∃ x y r, u.begin p m = { s with x1 := x, x2 := y, transfer := r } := by
    rintro u m ⟨x, y, rfl⟩
    obtain ⟨x', y', h⟩ := State.begin_touches { s with x1 := x, x2 := y } p m
    exact ⟨x', y', s.transfer, h⟩
  unfold State.kickPort
  dsimp only
  split
  · exact ⟨s.x1, s.x2, s.transfer, rfl⟩
  · split
    · exact start s _ ⟨s.x1, s.x2, rfl⟩
    · split
      · exact start _ _ (s.setPort_touches p _)
      · split
        · exact start _ _ (s.setPort_touches p _)
        · split
          · rename_i e rest _ _
            unfold State.beginControl
            obtain ⟨x, y, h⟩ := s.begin_touches p (.control e.msg)
            dsimp only
            rw [h]
            obtain ⟨x', y', h'⟩ := State.setPort_touches { s with x1 := x, x2 := y } p
              { ({ s with x1 := x, x2 := y } : State).port p with
                send := rest
                outstandingControl := (({ s with x1 := x, x2 := y } : State).port p).outstandingControl + 1 }
            rw [h']
            split
            · exact ⟨x', y', _, rfl⟩
            · exact ⟨x', y', s.transfer, rfl⟩
          · split
            · split
              · exact s.offerBulk_touches _
              · exact ⟨s.x1, s.x2, s.transfer, rfl⟩
            · exact ⟨s.x1, s.x2, s.transfer, rfl⟩

/-- The lane transmitter touches the three lane queues and its own frame alone (R179). -/
theorem State.kickLane_touches :
    ∃ i q n t, s.kickLane = { s with immediate := i, requests := q, notices := n, laneTx := t } := by
  unfold State.kickLane
  split
  · exact ⟨s.immediate, s.requests, s.notices, s.laneTx, rfl⟩
  · split <;> exact ⟨_, _, _, _, rfl⟩

/-- The end of an event touches the transmitters, the queues they send from and the transfer alone (R110, R179). -/
theorem State.settle_touches :
    ∃ x y r i q n t,
      s.settle
        = { s with x1 := x, x2 := y, transfer := r, immediate := i, requests := q, notices := n, laneTx := t } := by
  unfold State.settle
  obtain ⟨x, y, r, h⟩ := s.kickPort_touches .x1
  rw [h]
  obtain ⟨x', y', r', h'⟩ := State.kickPort_touches { s with x1 := x, x2 := y, transfer := r } .x2
  rw [h']
  obtain ⟨i, q, n, t, h''⟩ := State.kickLane_touches { s with x1 := x', x2 := y', transfer := r' }
  exact ⟨x', y', r', i, q, n, t, h''⟩

end Sys2Proof.Machine
end

