-- ==== Sys2Proof/Tests/Slice0.lean ====
section
/-! SUPPORT. Tests: the checks of WellFormed, the manual's worked figures, one or two steps of each command on small
states, and for each statement with hypotheses a state that meets them. -/

namespace Sys2Proof.Tests

-- One theorem at a time: elaborated side by side, the kernel's decisions ask for a thread each.
set_option Elab.async false

open Sys2Proof Sys2Proof.Machine

/-! ### Small states -/

/-- The state a command leaves. -/
def after (c : Instr) (s : State) : State :=
  match exec c s with
  | .next t => t
  | .fault _ | .refused _ => s

/-- Table 1, VITAL, words 3 and 2: D1 = 2 + 3 + 2, D2 = 2 + 1·3 + 2·2 (R19). -/
def vital : Table :=
  { number := 1, kind := .vital, length := 2, base := 0, safe := 0x0A0A, merge := 12, working := some ⟨7, 9⟩
    checkpoint := some ⟨7, 9⟩, unsettled := false }

/-- Table 6, LOCAL, words 0 and 0. -/
def loc : Table :=
  { number := 6, kind := .localKind, length := 2, base := 2, safe := 0xFFFF, merge := 14, working := some ⟨7, 2⟩
    checkpoint := some ⟨7, 2⟩, unsettled := false }

/-- Table 7, STATIC, one word 0. -/
def stat : Table :=
  { number := 7, kind := .static, length := 1, base := 4, safe := 0, merge := 12, working := some ⟨8, 1⟩
    checkpoint := some ⟨8, 1⟩, unsettled := false }

/-- A record ACTIVE from cycle 1. -/
def up : StandingRecord := { standing := .active, activeFrom := some 1, source := some .coldStart }

/-- An OPEN port whose receiver is inside a frame. -/
def openPort : PortState := { PortState.powerOn with rx := .opened, inside := true }

/-- Lane A's part, ACTIVE at cycle 5 with three lanes ACTIVE, a valid checkpoint and three tables. -/
def act : State :=
  { State.powerOn 0 [(0, ⟨3, 0⟩), (1, ⟨2, 0⟩), (32768, ⟨3, 0⟩), (32769, ⟨2, 0⟩)] [] with
    part := .active, installation := 1, storeGrant := .free, pace := some 1600, tables := [vital, loc, stat], cycle := 5
    checkpointValid := true, standings := ⟨up, up, up⟩, lastVoted := 5, confirmed := true, x1 := openPort
    x2 := openPort, laneInside := true }

/-- The part in CONFIG with its three tables. -/
def config : State :=
  { act with
    part := .config, confirmed := false, standings := .powerOn 0, checkpointValid := false
    tables := [vital, loc, stat].map Table.unestablish }

/-- A record out of the vote. -/
def out : StandingRecord := { standing := .excluded, activeFrom := none, source := some .selfReport }

/-- The part EXCLUDED. -/
def excluded : State := { act with part := .excluded, confirmed := false, standings := ⟨out, up, up⟩ }

/-- A request that enters service. -/
def asked (s : State) (r : Request) : State := { s with requests := [⟨0x0A, 1, r, .waiting⟩] }

/-- A request in service. -/
def doing (s : State) (r : Request) (w : Work) : State := { s with requests := [⟨0x0A, 1, r, .serving w⟩] }

/-- A grant with one requester asking and no disturbance. -/
def by_ (r : Requester) : Grant := { asks := [r], upset := 0 }

/-- A grant whose word has two turned bits. -/
def bad (r : Requester) : Grant := { asks := [r], upset := 3 }

/-- A grant whose word has one turned bit. -/
def bit (r : Requester) : Grant := { asks := [r], upset := 1 }

/-- What the lane transmitter sends. -/
def sent (s : State) : Option LaneOut := s.laneTx.map (·.frame)

/-- The reply that answers the request of `asked` and `doing`. -/
def reply (st : Status) (f : ReplyFields) : Option LaneOut := some (.reply ⟨0x0A, 1, st, f⟩)

/-! ### WellFormed refuses -/

theorem test_lane_body_too_long :
    (Instr.laneFrameReceived 1 0 (List.replicate 1025 0) 0).wellFormed = false := by decide +kernel
theorem test_lane_length_that_is_good : (Instr.laneLengthFieldBad 2).wellFormed = false := by decide
theorem test_lane_length_below : (Instr.laneLengthFieldBad 1).wellFormed = true := by decide
theorem test_cross_body_too_long :
    (Instr.crossFrameArrival .x1 0x20 1 1 0 (List.replicate 1025 0) 0).wellFormed = false := by decide +kernel
theorem test_cross_length_that_is_good : (Instr.crossLengthFieldBad .x1 1031).wellFormed = false := by decide
theorem test_cross_length_above : (Instr.crossLengthFieldBad .x1 1032).wellFormed = true := by decide

/-! ### Words written out from the manual -/

/-- No row of the table gives bits. -/
theorem test_no_word_spells_a_command : decodeTableWord 32 0 = none := rfl

/-- The check value of the CRC-16 of R192 (polynomial 1021h, initial value FFFFh) over the digits 1 to 9. -/
theorem test_crc16 : crc16 [0x31, 0x32, 0x33, 0x34, 0x35, 0x36, 0x37, 0x38, 0x39] = 0x29B1 := by decide +kernel

/-- The check value of the CRC-32 of R192 (04C11DB7h, FFFFFFFFh, inverted, most significant bit first). -/
theorem test_crc32 : crc32 [0x31, 0x32, 0x33, 0x34, 0x35, 0x36, 0x37, 0x38, 0x39] = 0xFC891918 := by decide +kernel

/-- DEFINE TABLE 9, LOCAL, length 2048, safe FFFFh, rule 14, byte by byte. -/
theorem test_parse_define_table :
    parseRequest 0x05 [9, 2, 0x08, 0x00, 0xFF, 0xFF, 14] = some (.defineTable 9 .localKind 2048 0xFFFF 14) := by
  decide
theorem test_parse_read : parseRequest 0x0A [4, 0x0F, 0xFA, 0, 10] = some (.read 4 4090 10) := by decide
theorem test_parse_close_cycle : parseRequest 0x0F [0, 0, 1, 2] = some (.closeCycle 258) := by decide
theorem test_parse_set_timing :
    parseRequest 0x04 [1, 0x01, 0xF4, 0, 0, 1, 64, 0, 1, 0, 8]
      = some (.setTiming ⟨some 500, none, none, some 64, none, some 8⟩) := by decide
theorem test_parse_join :
    parseRequest 0x08 [1, 1, 6, 0, 1, 0, 2] = some (.join 1 [⟨6, 1, 2⟩]) := by decide
theorem test_parse_refuses_spare_byte : parseRequest 0x0D [4, 0] = none := by decide
theorem test_parse_refuses_kind_three : parseRequest 0x05 [9, 3, 0, 1, 0, 0, 12] = none := by decide
theorem test_parse_update : parseCross 0x31 [6, 0, 1, 0, 3] = some (.bulk (.update 6 1 3)) := by decide
theorem test_parse_standing_notice :
    parseCross 0x21 [3, 1, 1, 0, 0, 0, 1, 3, 0, 2, 0]
      = some (.control (.standingNotice ⟨⟨.active, some 1⟩, ⟨.excluded, none⟩, ⟨.joining, none⟩⟩)) := by decide
theorem test_parse_final_mark :
    parseCross 0x32 [0, 0, 1, 0xF6, 1, 1, 1, 0, 9, 0, 18] = some (.bulk (.closeMark 502 (some [⟨1, ⟨9, 18⟩⟩]))) := by
  decide
theorem test_credit_frame_bytes :
    (crossFrameBytes (some .b) 0x01020304 (.credit .bulk)).take 11
      = [0x7E, 0, 8, 0x38, 0, 1, 1, 2, 3, 4, 2] := by decide
theorem test_reply_frame_bytes :
    (LaneOut.reply ⟨0x0D, 7, .refused .static, .none⟩).bytes.take 8 = [0x7E, 0, 5, 0x80, 7, 0x0D, 5, 4] := by decide

/-! ### Figures of the manual -/

/-- 02, case 1: table 3 of length 4 with 5, 0, 65535, 256. -/
theorem test_digest_case_1 : digestOf 3 4 [5, 0, 65535, 256] = ⟨279, 1075⟩ := by decide
theorem test_change_case_1 : (Pair.mk 279 1075).addDelta 2 (delta 65535 7) = ⟨272, 1054⟩ := by decide
/-- 02, case 2: the change from 0 to 65520, and the aliasing change from 65521 to 0. -/
theorem test_change_case_2 : (Pair.mk 20 31).addDelta 0 (delta 0 65520) = ⟨19, 30⟩ := by decide
theorem test_aliasing_change : delta 65521 0 = 0 := by decide
/-- 09: 00F0h merged with the peer's 0F00h under OR gives 0FF0h; under COPY the peer's word; rule 6 is exclusive OR. -/
theorem test_merge_or : mergeWord 14 0x0F00 0x00F0 = 0x0FF0 := by decide
theorem test_merge_copy_keep :
    mergeWord 12 0x0F00 0x00F0 = 0x0F00 ∧ mergeWord 10 0x0F00 0x00F0 = 0x00F0 := by decide
theorem test_merge_xor : mergeWord 6 0x00FF 0x0F0F = 0x0FF0 := by decide
/-- R49: the successor of the largest number is 1, and 1 is later than it. -/
theorem test_cycle_wraps : successor 0xFFFFFFFF = 1 ∧ later 1 0xFFFFFFFF = true ∧ later 5 5 = false := by decide
/-- R187: 10 is equally near to 4 and 16, and takes the larger. -/
theorem test_prescale : [2, 3, 9, 10, 39, 40].map nearestPrescale = [1, 4, 4, 16, 16, 64] := by decide
/-- R165: the kinds 0 to 3, 10, 12 and 13 are masked after power-on. -/
theorem test_default_masks :
    ((List.range 16).filter fun k => defaultMasks.getD k false) = [0, 1, 2, 3, 10, 12, 13] := by decide
/-- R1 and 01's example: the copies of 7196 and 32767. -/
theorem test_copies : copyOf 7196 = 39964 ∧ copyOf 32767 = 65535 ∧ otherCopy 39964 = 7196 := by decide

/-! ### One step of each command -/

theorem test_power_on_strap : (after (.powerOnReset false true) act).ownLane = some .c := by decide
theorem test_power_on_clears : (after (.powerOnReset true false) act).part = .init
    ∧ (after (.powerOnReset true false) act).tables = [] := by decide
theorem test_store_clear_writes :
    (after .storeClearWrite { State.reset with store := [(0, ⟨5, 3⟩)] }).store = [] := by decide
theorem test_store_clear_ends :
    (after .storeClearWrite { State.reset with clearNext := 65535 }).part = .config
      ∧ (after .storeClearWrite { State.reset with clearNext := 65535 }).x1.tx.map (·.msg) = some .creditReset := by
  decide +kernel
theorem test_lane_frame_bad_crc :
    (after (.laneFrameReceived 1 9 [] 0) act).log.map (·.reason) = [some .crc] := by decide +kernel
theorem test_lane_frame_unknown :
    (after (.laneFrameReceived 0x16 9 [] (crc16 [0, 2, 0x16, 9])) act).requests = [⟨0x16, 9, .unknown, .waiting⟩] := by
  decide +kernel
theorem test_lane_length_field :
    (after (.laneLengthFieldBad 1027) act).log.map (·.reason) = [some .format] := by decide
theorem test_lane_idle_gap : (after .laneIdleGap act).laneInside = false
    ∧ (after .laneIdleGap act).counters.getD 13 0 = 1 := by decide
theorem test_lane_start_byte : (after .laneStartByte { act with laneInside := false }).laneInside = true := by decide
theorem test_lane_transmit_end :
    (after .laneTransmitEnd { act with laneTx := some ⟨.reply ⟨1, 1, .done, .none⟩, []⟩ }).laneTx = none := by decide
theorem test_unknown_request :
    sent (after .unknownRequest (asked act .unknown)) = reply .unknownRequest .none := by decide
theorem test_identify :
    sent (after .identify (asked act .identify)) = reply .done (.identity Config.partName Config.revision 0 (some .a) 1 .active) := by
  simp [sent, after, exec, execIdentify, asked, State.entering, State.serving?, inService, State.answer, setProgress,
    State.settle, State.kickPort, State.kickLane, State.beginLane, act, openPort, PortState.powerOn, State.powerOn,
    State.port, reply, State.ownLane, laneOf, Config.controlSlots]
theorem test_status_in_init :
    (asked State.reset .status).statusReport.clearNext = some 0
      ∧ (asked State.reset .status).statusReport.units = none := by decide
theorem test_read_standing_in_init :
    sent (after .readStanding (asked State.reset .readStanding)) = reply .wrongState .none := by decide
theorem test_set_installation_drains :
    (after .setInstallation (asked config (.setInstallation 0))).x1.rx = .draining
      ∧ sent (after .setInstallation (asked config (.setInstallation 0))) = reply .done (.code 1) := by decide +kernel
theorem test_set_timing_clamps :
    (after .setTiming (asked config (.setTiming ⟨some 10, some 6000, none, some 40, none, some 300⟩))).timings
      = ⟨20, 5000, 1000, 64, 99, 255⟩ := by decide
/-- 01's worked example: table 2 after table 7 of length 3000. -/
theorem test_define_table :
    sent (after .defineTable (asked { config with tables := [{ stat with length := 3000, base := 0 }] }
      (.defineTable 2 .vital 4096 0 12))) = reply .done (.defined 3000 25672) := by decide
theorem test_define_table_merge :
    sent (after .defineTable (asked config (.defineTable 9 .vital 2048 0 14))) = reply (.refused .merge) .none := by
  decide
theorem test_clear_directory :
    sent (after .clearDirectory (asked config .clearDirectory)) = reply .done (.count 3) := by decide
theorem test_start_cold : (after .startCold (asked config .startCold)).part = .starting
    ∧ (after .startCold (asked config .startCold)).establish = some ⟨0, 0, ⟨2, 2⟩, false, false⟩ := by decide
theorem test_start_cold_no_installation :
    sent (after .startCold (asked { config with installation := 0 } .startCold))
      = reply (.refused .noInstallation) .none := by decide
/-- 09's worked example: an empty range list stands for the VITAL and LOCAL tables, here two ranges. -/
theorem test_join : sent (after .join (asked excluded (.join 1 []))) = reply .done (.ranges 2) := by decide +kernel
/-- R119: a JOIN over an empty directory fails at once with one STANDING CHANGE NOTICE, one FAULT and one RESYNC. -/
theorem test_join_empty_directory :
    (after .join (asked { excluded with tables := [], standings := ⟨out, out, out⟩ } (.join 1 []))).notices.map Notice.kind
      = [0x41, 0x44, 0x42] := by decide +kernel
theorem test_join_overlap :
    sent (after .join (asked excluded (.join 1 [⟨6, 0, 1⟩, ⟨1, 0, 2⟩, ⟨1, 1, 1⟩])))
      = reply (.refused .overlap) (.positions [2, 3]) := by decide
theorem test_lane_reset : (after (.laneReset (some 3)) act).part = .config
    ∧ sent (after (.laneReset (some 3)) act) = some (.reply ⟨0x09, 3, .done, .wasReset .active true 5 0⟩) := by
  decide +kernel
theorem test_lane_reset_in_init : after (.laneReset (some 3)) State.reset = State.reset := by decide
/-- R40: a READ past the end of a table is clamped. -/
theorem test_read : (after .read (asked act (.read 1 1 10))).requests.map (·.progress) = [.serving (.read 1 [])] := by
  decide
theorem test_lane_word_read :
    sent (after (.laneWordRead (by_ .lane)) (doing act (.read 1 1 10) (.read 1 [])))
      = reply .done (.values 1 1 1 [2]) := by decide
theorem test_lane_word_read_corrected :
    (after (.laneWordRead (bit .lane)) (doing act (.read 1 0 2) (.read 2 []))).counters.getD 0 0 = 1
      ∧ (after (.laneWordRead (bit .lane)) (doing act (.read 1 0 2) (.read 2 []))).store = act.store := by decide
theorem test_write : sent (after .write (asked act (.write 7 0 1 [9]))) = reply (.refused .static) .none := by decide
theorem test_write_masked_lost :
    sent (after .writeMasked (asked { act with lostList := [1] } (.writeMasked 1 1 0xFF 0)))
      = reply .lost (.lostWord 1 1) := by decide
theorem test_safe_fill : sent (after .safeFill (asked excluded (.safeFill 1))) = reply .wrongState .none := by decide
/-- A WRITE of 5 over 3 at offset 0: δ = 2, so D1 = 9 and D2 = 11. -/
theorem test_lane_word_change :
    (after (.laneWordChange (by_ .lane)) (doing act (.write 1 0 1 [5]) (.write 0))).tables.map (·.working)
        = [some ⟨9, 11⟩, some ⟨7, 2⟩, some ⟨8, 1⟩]
      ∧ (after (.laneWordChange (by_ .lane)) (doing act (.write 1 0 1 [5]) (.write 0))).changeList = [0] := by decide
theorem test_lane_word_change_masked :
    sent (after (.laneWordChange (by_ .lane)) (doing act (.writeMasked 1 0 0x000F 0x0014) .masked))
      = reply .done (.masked 3 4) := by decide
theorem test_read_digests :
    sent (after .readDigests (asked act (.readDigests [6])))
      = reply .done (.digests 5 true [⟨6, some ⟨7, 2⟩, some ⟨7, 2⟩, false⟩]) := by decide
/-- R54: the cycle of a CLOSE CYCLE must be the successor of 5. -/
theorem test_close_cycle_wrong_cycle :
    sent (after .closeCycle (asked act (.closeCycle 5))) = reply .wrongCycle (.cycle 5) := by decide
theorem test_close_cycle_lost :
    sent (after .closeCycle (asked { act with lostList := [2] } (.closeCycle 6))) = reply .lost (.lostList [(6, 0)]) := by
  decide

/-- A close of the one word 0 in this pass. -/
def closing (pass : ClosePass) (value : Option Word) : State :=
  { doing act (.closeCycle 6) .close with
    changeList := [0]
    close := some ⟨.lane, 6, .partialKind, 1, pass, 0, false, false, .none, value, false⟩ }

theorem test_close_check_read :
    (after (.closeCheckRead (by_ .cycle)) (closing .check none)).close.map (·.pass) = some .copy := by decide
theorem test_close_copy_access_last :
    sent (after (.closeCopyAccess (by_ .cycle)) (closing .copy (some 3)))
        = reply .done (.closed 6 .partialKind 1 [⟨1, ⟨7, 9⟩⟩])
      ∧ (after (.closeCopyAccess (by_ .cycle)) (closing .copy (some 3))).cycle = 6
      ∧ (after (.closeCopyAccess (by_ .cycle)) (closing .copy (some 3))).vote.map (·.cycle) = some 6 := by
  decide +kernel
theorem test_close_copy_failure :
    (after (.closeCopyAccess (bad .cycle)) (closing .copy none)).part = .excluded
      ∧ (after (.closeCopyAccess (bad .cycle)) (closing .copy none)).checkpointValid = false := by decide +kernel
theorem test_rollback_no_checkpoint :
    sent (after .rollback (asked { act with checkpointValid := false } .rollback)) = reply .noCheckpoint .none := by
  decide

/-- A rollback of word 0, which a WRITE has changed from 3 to 5. -/
def rolling : State :=
  { doing act .rollback .rollback with
    store := [(0, ⟨5, 0⟩), (1, ⟨2, 0⟩), (32768, ⟨3, 0⟩), (32769, ⟨2, 0⟩)], changeList := [0]
    tables := [{ vital with working := some ⟨9, 11⟩ }, loc, stat]
    rollback := some ⟨false, 0, 0, some 3, false, []⟩ }

theorem test_rollback_access :
    sent (after (.rollbackAccess (by_ .cycle)) rolling) = reply .done (.count 1)
      ∧ (after (.rollbackAccess (by_ .cycle)) rolling).tables = act.tables
      ∧ (after (.rollbackAccess (by_ .cycle)) rolling).changeList = [] := by decide
/-- R69: an uncorrectable copy is a copy failure also where the scrub unit decides on its pair. -/
theorem test_rollback_copy_failure_beside_decision :
    (after (.rollbackAccess (bad .cycle))
      { rolling with
        rollback := some ⟨false, 0, 0, none, false, []⟩
        loss := rolling.loss.set .scrub (.deciding ⟨0, [.readOther]⟩) }).log.map (·.kind) = [.copyFailure] := by
  decide +kernel

/-- An establishing pass in JOINING at word 1 of table 1, word 0 (9) passed: 02's case 3. -/
def establishing (writeDue : Bool) : State :=
  { config with
    part := .joining, join := some ⟨[], [], .establishing, [], none, none, none, none⟩
    tables := [{ vital with safe := 0, working := none, checkpoint := none }, Table.unestablish loc]
    establish := some ⟨0, 1, ⟨11, 11⟩, writeDue, false⟩ }

theorem test_establishing_read_uncorrectable :
    (after (.establishingRead (bad .cycle)) (establishing false)).establish = some ⟨0, 1, ⟨11, 11⟩, true, false⟩ := by decide
theorem test_establishing_safe_write :
    (after (.establishingSafeWrite (by_ .cycle)) (establishing true)).tables.map (·.working) = [some ⟨11, 11⟩, none]
      ∧ (after (.establishingSafeWrite (by_ .cycle)) (establishing true)).establish = some ⟨1, 0, ⟨7, 2⟩, false, false⟩
      ∧ (after (.establishingSafeWrite (by_ .cycle)) (establishing true)).counters.getD 3 0 = 1 := by decide

/-- The full copy of START COLD at its last word. -/
def coldCopy : State :=
  { doing config .startCold .startCold with
    part := .starting, tables := act.tables, fullCopy := some ⟨4, some 0, false⟩ }

theorem test_full_copy_access_last :
    (after (.fullCopyAccess (by_ .cycle)) coldCopy).part = .active
      ∧ sent (after (.fullCopyAccess (by_ .cycle)) coldCopy) = reply .done (.started 0 true 5 [⟨1, ⟨7, 9⟩⟩]) := by
  decide +kernel
theorem test_pace_tick : (after .paceTick act).waiting.scrub = true
    ∧ (after .paceTick (after .paceTick act)).scrubLag = 1 := by decide

/-- A scrub read of this address is waiting. -/
def scrubbing (s : State) (a : Nat) : State := { s with scrubCursor := a, waiting := s.waiting.set .scrub true }

theorem test_scrub_read_wraps :
    (after (.scrubRead (by_ .lane)) (scrubbing act 65535)).scrubCursor = 0
      ∧ (after (.scrubRead (by_ .lane)) (scrubbing act 65535)).scrubPasses = 1 := by decide
/-- R79: a listed word is lost; its table is unsettled. -/
theorem test_scrub_read_loses :
    (after (.scrubRead (bad .scrub)) (scrubbing { act with changeList := [1] } 1)).lostList = [1]
      ∧ (after (.scrubRead (bad .scrub)) (scrubbing { act with changeList := [1] } 1)).unsettledTables = [1] := by
  decide +kernel

/-- The scrub unit holds a decision on word 1. -/
def deciding (todo : List DecisionStep) : State := { act with loss := act.loss.set .scrub (.deciding ⟨1, todo⟩) }

theorem test_decision_other_read :
    (after (.decisionOtherRead (by_ .scrub)) (deciding [.readOther])).loss.scrub = .deciding ⟨1, [.restore 2]⟩ := by decide
theorem test_decision_double_loss :
    (after (.decisionOtherRead (bad .scrub)) (deciding [.readOther])).loss.scrub
        = .deciding ⟨1, [.clear 32769 0x0A0A, .safeChange 1 0x0A0A]⟩
      ∧ (after (.decisionOtherRead (bad .scrub)) (deciding [.readOther])).part = .excluded
      ∧ sent (after (.decisionOtherRead (bad .scrub)) { rolling with loss := (deciding [.readOther]).loss })
        = reply .noCheckpoint (.count 0) := by decide +kernel
theorem test_decision_clear_write :
    (after (.decisionClearWrite (by_ .scrub)) (deciding [.clear 32769 0])).checkpointValid = false
      ∧ (after (.decisionClearWrite (by_ .scrub)) (deciding [.clear 32769 0])).loss.scrub = .idle := by decide
/-- R77: a write of the STARTING row during the establishing pass spoils the full copy that follows it. -/
theorem test_decision_clear_write_in_pass :
    (after (.decisionClearWrite (by_ .scrub))
        { deciding [.clear 32769 0x0A0A] with
          part := .starting, establish := some ⟨0, 1, ⟨5, 5⟩, false, false⟩ }).establish.map (·.spoiled) = some true
      ∧ ({ coldCopy with establish := some ⟨2, 0, ⟨8, 1⟩, false, true⟩, fullCopy := none }.passEnd).fullCopy
        = some ⟨0, none, true⟩ := by decide
theorem test_decision_restore_write :
    (after (.decisionRestoreWrite (by_ .scrub)) (deciding [.restore 2])).counters.getD 1 0 = 1 := by decide
theorem test_decision_safe_change :
    (after (.decisionSafeChange (by_ .scrub)) (deciding [.safeChange 1 0x0A0A])).unsettledTables = [1]
      ∧ (after (.decisionSafeChange (by_ .scrub)) (deciding [.safeChange 1 0x0A0A])).changeList = [1] := by decide
theorem test_verify_running :
    sent (after .verify (asked act .verify)) = reply .done (.verifyStarted 5 2) := by decide
/-- R90: the start of a pass asks for its first read, and a table whose first word is lost ends SKIPPED before it. -/
theorem test_verify_asks_first_read :
    (after .verify (asked act .verify)).waiting.verify = true
      ∧ (after .verify (asked { act with lostList := [0] } .verify)).verify.map (fun v => (v.index, v.results))
        = some (1, [⟨1, .skipped, ⟨2, 2⟩⟩]) := by decide
theorem test_verify_stop : sent (after .verifyStop (asked act .verifyStop)) = reply (.refused .notRunning) .none := by
  decide

/-- A verify pass at the last word of table 1 with this accumulator. -/
def verifying (sums : Pair) : State := { act with verify := some ⟨.request, 5, [1, 7], 0, 1, sums, false, []⟩ }

theorem test_verify_read_agrees :
    (after (.verifyRead (by_ .verify)) (verifying ⟨5, 5⟩)).verify.map (·.results)
      = some [⟨1, .agrees, ⟨7, 9⟩⟩] := by decide
theorem test_verify_read_drift :
    (after (.verifyRead (by_ .verify)) (verifying ⟨6, 5⟩)).part = .excluded
      ∧ (after (.verifyRead (by_ .verify)) (verifying ⟨6, 5⟩)).log.map (·.pairs) = [some (⟨7, 9⟩, ⟨8, 9⟩)] := by
  decide +kernel
/-- R92 and R94: with the skip flag set the table ends without a read, unless its read is already asked for. -/
theorem test_verify_read_skips :
    ({ verifying ⟨5, 5⟩ with verify := some ⟨.request, 5, [1, 7], 0, 1, ⟨5, 5⟩, true, []⟩ }.looksLost .verify = true)
      ∧ { verifying ⟨5, 5⟩ with
          verify := some ⟨.request, 5, [1, 7], 0, 1, ⟨5, 5⟩, true, []⟩
          waiting := act.waiting.set .verify true }.looksLost .verify = false := by decide
/-- R89: RETRYING lasts as long as the other reader's decision. -/
theorem test_verify_walk_state :
    { deciding [.readOther] with loss := (deciding [.readOther]).loss.set .verify (.retrying 1) }.walkState = .retrying
      ∧ { act with loss := act.loss.set .verify (.retrying 1) }.walkState = .reading := by decide
theorem test_fault_report :
    sent (after .faultReport (asked { act with overrun := 2, counters := 4 :: List.replicate 15 0 }
      (.faultReport (true :: List.replicate 15 false) false)))
        = reply .done (.faults (4 :: List.replicate 15 0) none [] 2) := by decide
theorem test_set_notice_mask :
    (after .setNoticeMask (asked act (.setNoticeMask (List.replicate 16 true)))).masks = List.replicate 16 true := by
  decide
theorem test_cross_frame_bad_crc :
    (after (.crossFrameArrival .x1 0x38 0 1 1 [1] 0) act).x1.rx = .draining
      ∧ (after (.crossFrameArrival .x1 0x38 0 1 1 [1] 0) act).counters.getD 10 0 = 1 := by decide +kernel
theorem test_cross_frame_control_held :
    (after (.crossFrameArrival .x1 0x23 1 1 1 [0, 0, 0, 5] (crc32 (crossCovered 0x23 1 1 1 [0, 0, 0, 5]))) act).x1.control
      = [.joinGrant 5] := by decide +kernel
theorem test_cross_length_field :
    (after (.crossLengthFieldBad .x2 6) act).log.map (·.lane) = [some (some .c)] := by decide +kernel
theorem test_cross_idle_gap : (after (.crossIdleGap .x1) act).x1.tx.map (·.msg) = some .creditReset := by decide +kernel
theorem test_cross_start_byte :
    (after (.crossStartByte .x1) { act with x1 := .powerOn }).x1.inside = true := by decide
theorem test_cross_transmit_end :
    (after (.crossTransmitEnd .x1)
      { act with x1 := { openPort with rx := .draining, tx := some ⟨some .a, 1, .creditReset, [], true⟩ } }).x1.rx
        = .opened := by decide

/-- A control frame held at X1, which faces lane B. -/
def holding (s : State) (m : ControlMsg) : State := { s with x1 := { openPort with control := [m] } }

/-- A standing list that names these standings. -/
def list (b c : StandingEntry) : StandingList := ⟨⟨.active, some 1⟩, b, c⟩

theorem test_digest_notice_placed :
    (after (.digestNotice .x1) (holding act (.digestNotice 6 (list ⟨.active, some 1⟩ ⟨.active, some 1⟩) [⟨1, ⟨7, 9⟩⟩]))).slotX1
      = some ⟨6, [⟨1, ⟨7, 9⟩⟩]⟩ := by decide
theorem test_digest_notice_stale :
    (after (.digestNotice .x1) (holding act (.digestNotice 5 (list ⟨.active, some 1⟩ ⟨.active, some 1⟩) [⟨1, ⟨7, 9⟩⟩]))).log.map
      (·.cycle) = [5] := by decide
theorem test_standing_notice_self_report :
    (after (.standingNotice .x1) (holding act (.standingNotice (list ⟨.excluded, none⟩ ⟨.active, some 1⟩)))).standings.b
      = ⟨.excluded, none, some .selfReport⟩ := by decide +kernel
theorem test_standing_notice_third_lane :
    (after (.standingNotice .x1) (holding act (.standingNotice (list ⟨.active, some 1⟩ ⟨.halted, none⟩)))).standings.c
      = ⟨.halted, none, some .peerReport⟩ := by decide +kernel

/-- A vote for cycle 6 is open. -/
def voting (b c : Option PeerNotice) : State :=
  { act with vote := some ⟨6, [⟨1, ⟨7, 9⟩⟩], 500⟩, slotX1 := b, slotX2 := c, confirmed := false }

/-- R125, row 5: one peer present and equal, the other absent. -/
theorem test_vote_timer_expiry :
    (after .voteTimerExpiry (voting (some ⟨6, [⟨1, ⟨7, 9⟩⟩]⟩) none)).standings.c.standing = .excluded
      ∧ (after .voteTimerExpiry (voting (some ⟨6, [⟨1, ⟨7, 9⟩⟩]⟩) none)).laneHealthy = true := by decide +kernel
theorem test_vote_timer_isolated : (after .voteTimerExpiry (voting none none)).part = .excluded := by decide +kernel

/-- The part asks lane B for a donor. -/
def askingB : State :=
  { excluded with
    part := .joining, standings := ⟨{ out with standing := .joining }, up, up⟩
    join := some ⟨[⟨1, 0, 2⟩], [], .asking, [.b], some .b, some .b, some 250, none⟩ }

theorem test_join_wait_expiry :
    (after .joinWaitExpiry askingB).join.map (·.current) = some (some .c) := by decide +kernel
theorem test_join_grant : (after (.joinGrant .x1) (holding askingB (.joinGrant 9))).part = .receiving := by decide +kernel
theorem test_join_grant_unwanted :
    (after (.joinGrant .x1) (holding act (.joinGrant 9))).x1.tx.map (·.msg)
      = some (.credit .control) := by decide +kernel
theorem test_join_refuse :
    (after (.joinRefuse .x1) (holding askingB (.joinRefuse .serving))).join.map (·.refusal)
      = some (some .serving) := by decide +kernel

/-- Lane B asks this part for a transfer of its two served tables. -/
def askedByB : State :=
  holding { act with standings := ⟨up, { out with standing := .joining }, up⟩ }
    (.joinAsk [⟨1, .vital, 2⟩, ⟨6, .localKind, 2⟩, ⟨7, .static, 1⟩] [⟨7, ⟨8, 1⟩⟩] [])

theorem test_join_ask_granted :
    (after (.joinAsk .x1) askedByB).transfer.map (·.ranges) = some [⟨1, 0, 2⟩, ⟨6, 0, 2⟩] := by decide +kernel
theorem test_join_ask_not_active :
    (after (.joinAsk .x1) { askedByB with part := .excluded }).x1.send = [⟨.joinRefuse .notActive, false⟩] := by
  decide +kernel

/-- The part serves lane B, at the start of its first range. -/
def serving : State :=
  { act with
    standings := ⟨up, { out with standing := .joining }, up⟩
    transfer := some ⟨.b, .x1, [⟨1, 0, 2⟩, ⟨6, 0, 2⟩], 0, 0, .sending, true, true, some ⟨1, 0, [], false⟩, [], 0, 0⟩ }

theorem test_transfer_abort :
    (after (.transferAbort .x1) (holding serving (.transferAbort .stall))).transfer = none := by decide +kernel
theorem test_donor_block_read :
    (after (.donorBlockRead (by_ .donor)) serving).transfer.map (·.block) = some (some ⟨1, 0, [3], false⟩) := by decide
theorem test_donor_block_read_sends :
    (after (.donorBlockRead (by_ .donor)) (after (.donorBlockRead (by_ .donor)) serving)).x1.tx.map (·.msg)
      = some (.bulk (.imageBlock 1 0 [3, 2])) := by decide +kernel
/-- R38 and 09's example: a changed word behind the serving cursor is forwarded. -/
theorem test_change_behind_cursor :
    (after (.laneWordChange (by_ .lane))
      (doing (after (.donorBlockRead (by_ .donor)) serving) (.write 1 0 1 [4]) (.write 0))).transfer.map (·.queue)
        = some [.update 1 0 4] := by decide
theorem test_donor_stall_expiry :
    (after .donorStallExpiry { serving with transfer := serving.transfer.map fun t => { t with opened := false } }).log.map
      (·.kind) = [.transferAbandoned] := by decide +kernel

/-- The part receives from lane B a frame that is in processing, if one is given, in this phase. -/
def receiving (frame : Option (BulkMsg × Nat)) (phase : ReceivePhase) : State :=
  { excluded with
    part := .receiving, standings := ⟨{ out with standing := .joining }, up, up⟩
    receive := some
      ⟨.b, .x1, [⟨1, 0, 2⟩, ⟨6, 0, 2⟩], phase, frame, some 1000, 0, 0, none, 0, 0⟩ }

theorem test_bulk_frame_take :
    (after .bulkFrameTake
      { receiving none .applying with x1 := { openPort with bulk := [.update 6 1 3] } }).receive.map (·.frame)
        = some (some (.update 6 1 3, 0)) := by decide
theorem test_bulk_frame_mismatch :
    (after .bulkFrameTake
      { receiving none .applying with x1 := { openPort with bulk := [.update 7 0 3] } }).receive.map (·.failure)
        = some (some .mismatch) := by decide +kernel
/-- R157: 0 merged with the peer's 3 under OR gives 3; D1 = 7 + 3 and D2 = 2 + 2·3. -/
theorem test_resync_write :
    (after (.resyncWrite (by_ .joiner)) (receiving (some (.update 6 1 3, 0)) .applying)).tables.map (·.working)
      = [some ⟨7, 9⟩, some ⟨10, 8⟩, some ⟨8, 1⟩] := by decide +kernel
theorem test_receive_stall_expiry :
    (after .receiveStallExpiry (receiving none .applying)).receive.map (·.phase) = some .failing := by decide +kernel
theorem test_failure_fill_write :
    ((after (.failureFillWrite (by_ .joiner)) (receiving none .failing)).store.get 0).value = 0x0A0A
      ∧ (after (.failureFillWrite (by_ .joiner)) (after (.failureFillWrite (by_ .joiner)) (receiving none .failing))).part
        = .excluded := by decide +kernel
/-- R119: an exclusion report that fails a resynchronisation with nothing to fill has one STANDING CHANGE NOTICE, after
the FAULT NOTICE that the transmitter has begun. -/
theorem test_standing_notice_ends_empty_fill :
    (after (.standingNotice .x1)
      (holding { receiving none .applying with tables := [loc] }
        (.standingNotice ⟨⟨.excluded, none⟩, ⟨.active, some 1⟩, ⟨.active, some 1⟩⟩))).notices.map Notice.kind
      = [0x41, 0x42] := by decide +kernel
/-- R154: one list from lane C that excludes the joining lane and this part ends serving with JOINER LEFT. -/
theorem test_standing_notice_joiner_first :
    (after (.standingNotice .x2)
      { serving with
        x2 := { openPort with control := [.standingNotice ⟨⟨.excluded, none⟩, ⟨.excluded, none⟩, ⟨.active, some 1⟩⟩] }
      }).notices = [.resync (some .b) 5 (.servingEnded .joinerLeft 0 0)] := by decide +kernel
theorem test_reason_bytes :
    (ServingEnd.joinerAbort .stall).bytes = [2, 5] ∧ (ResyncReason.donorAbort .donorLeft).bytes = [2, 3]
      ∧ StandingReason.bytes (.resync .excludedByPeer) = [2] := by decide
theorem test_healthy_wave_half : (after .healthyWaveHalf act).healthyPin = true := by decide
theorem test_step_takes_the_front :
    step { act with pending := [.laneStartByte, .paceTick] } = exec .laneStartByte { act with pending := [.paceTick] } :=
  rfl

/-! ### States that meet the hypotheses of the statements -/

/-- What the granted read of a word gives: `none` without a grant. -/
def reads (s : State) (g : Grant) (r : Requester) (access : Access) (a : Nat) : Option (Option Word) :=
  (s.grantWork g r access).map fun s1 => (s1.readWord a g.upset).2

/-- The lost list where this access is granted. -/
def lostAt (s : State) (g : Grant) (r : Requester) (access : Access) : Option (List Nat) :=
  (s.grantWork g r access).map (·.lostList)

/-- A request whose reply is ready. -/
def ready : RequestEntry := ⟨1, 1, .identify, .ready ⟨1, 1, .done, .none⟩⟩

/-- A request that waits. -/
def waits : RequestEntry := ⟨2, 2, .status, .waiting⟩

theorem witness_StepRunsFrontCommand :
    { act with pending := [.paceTick] }.pending = .paceTick :: [] ∧ act.pending = [] := by decide
theorem witness_ReplyGoesToRequestInService :
    { act with requests := [ready, waits] }.requests = [ready] ++ waits :: []
      ∧ (∀ x ∈ [ready], ∃ r, x.progress = .ready r) ∧ (∀ r, waits.progress ≠ .ready r) := by
  simp [ready, waits]
theorem witness_PowerOnResetThenStoreClear :
    (State.reset.part = .init ∧ State.reset.storeGrant = .storeClear
      ∧ { State.reset with clearNext := 65534 }.clearNext + 1 < 65536)
      ∧ { State.reset with clearNext := 65535 }.clearNext = 65535 ∧ act.part ≠ .init := by decide
theorem witness_LanePortSendsInOrderAndHunts :
    { act with laneTx := some ⟨.reply ⟨1, 1, .done, .none⟩, []⟩ }.laneTx.isSome = true
      ∧ (act.laneTx = none ∧ { act with immediate := [⟨1, 1, .malformed, .none⟩] }.immediate = ⟨1, 1, .malformed, .none⟩ :: [])
      ∧ (act.immediate = [] ∧ { act with requests := [ready] }.requests = ready :: []
        ∧ ready.progress = .ready ⟨1, 1, .done, .none⟩)
      ∧ (waits.progress = .waiting ∧ { act with requests := [waits], notices := [.fault (act.bareFault .wordCorrected) 1] }.notices
          = .fault (act.bareFault .wordCorrected) 1 :: [])
      ∧ act.laneInside = true ∧ ((1 : BitVec 16).toNat < 2 ∧ 1026 < (1027 : BitVec 16).toNat)
      ∧ State.reset.laneInside = false := by decide
theorem witness_LaneFrameDealtWithInOrder :
    act.laneInside = true ∧ (List.replicate 1024 (0 : Byte)).length ≤ 1024
      ∧ (0 : BitVec 16) ≠ crc16 (laneCovered 1 9 [])
      ∧ act.part ≠ .init
      ∧ (0x15 < (0x16 : Byte).toNat ∧ { act with requests := [waits, waits, waits] }.requests.length < 4)
      ∧ ((0x15 : Byte) ≠ 0 ∧ (0x15 : Byte).toNat ≤ 0x15 ∧ parseRequest 0x15 [] = some .readStanding)
      ∧ ({ State.reset with laneInside := true }.part = .init ∧ parseRequest 0x09 [] = some .laneReset)
      ∧ 4 ≤ { act with requests := [waits, waits, waits, waits] }.requests.length
      ∧ parseRequest 1 [0] = none
      ∧ act.immediate.length < 4
      ∧ 4 ≤ { act with immediate := List.replicate 4 ⟨1, 1, .malformed, .none⟩ }.immediate.length := by decide +kernel
theorem witness_LaneResetReturnsPartToConfig :
    act.part ≠ .init ∧ State.reset.part = .init
      ∧ (asked act .laneReset).serving? = some ⟨0x0A, 1, .laneReset, .waiting⟩
      ∧ (receiving none .closing).receive.map (·.phase) = some .closing
      ∧ (receiving none .failing).receive.map (·.phase) = some .failing := by decide

/-- The part with its port X1 like this. -/
def withX1 (s : State) (p : PortState) : State := { s with x1 := p }

/-- A transmission in flight. -/
def sending (m : CrossMsg) : Option CrossTransmission := some ⟨some .a, 1, m, [], false⟩

/-- A grant that waits in the send queue. -/
def queuedGrant : SendEntry := ⟨.joinGrant 5, true⟩

theorem witness_CrossTransmitterTakesFirstReadyFrame :
    ((withX1 act { openPort with tx := sending .creditReset }).port .x1).tx.isSome = true
      ∧ (((withX1 act openPort.drain).port .x1).tx = none ∧ ((withX1 act openPort.drain).port .x1).rx = .draining
        ∧ (withX1 act openPort.drain).portProcessing .x1 = false)
      ∧ ((withX1 (receiving (some (.update 6 1 3, 0)) .applying) openPort.drain).portProcessing .x1 = true)
      ∧ (0 < ((withX1 act { openPort with pendingControl := 1 }).port .x1).pendingControl)
      ∧ (openPort.pendingControl = 0 ∧ 0 < ((withX1 act { openPort with pendingBulk := 1 }).port .x1).pendingBulk)
      ∧ (openPort.pendingBulk = 0
        ∧ ((withX1 act { openPort with outstandingControl := 1, send := [queuedGrant] }).port .x1).outstandingControl < 2)
      ∧ (openPort.send = [] ∧ 2 ≤ { openPort with outstandingControl := 2, send := [queuedGrant] }.outstandingControl)
      ∧ (serving.transfer.map (·.port) = some .x1 ∧ { openPort with outstandingBulk := 5 }.outstandingBulk < 6)
      ∧ act.transfer = none := by decide

/-- The transfer being served, changed. -/
def transferring (f : TransferRecord → TransferRecord) : State := { serving with transfer := serving.transfer.map f }

theorem witness_DonorOffersBlocksThenQueue :
    (transferring fun t => { t with opened := false }).transfer.map (·.opened) = some false
      ∧ serving.transfer.map (fun t => (t.opened, t.block)) = some (true, some ⟨1, 0, [], false⟩)
      ∧ (transferring fun t => { t with block := some ⟨1, 0, [3, 2], true⟩ }).transfer.map (·.block)
        = some (some ⟨1, 0, [3, 2], true⟩)
      ∧ (transferring fun t => { t with block := none, queue := [.update 1 0 4], updatesSent := 65535 }).transfer.map
        (fun t => (t.block, t.queue, decide (t.updatesSent ≤ 65535))) = some (none, .update 1 0 4 :: [], true)
      ∧ (transferring fun t => { t with block := none, queue := [.closeMark 6 none] }).transfer.map (·.queue)
        = some (.closeMark 6 none :: [])
      ∧ (transferring fun t => { t with block := none }).transfer.map (fun t => (t.phase, t.ranges[t.cursorRange]?))
        = some (.sending, some ⟨1, 0, 2⟩)
      ∧ (transferring fun t => { t with block := none, phase := .finalQueued }).transfer.map (·.phase) = some .finalQueued
      ∧ (transferring fun t => { t with block := none, cursorRange := 2 }).transfer.map
        (fun t => decide (t.ranges.length ≤ t.cursorRange)) = some true := by decide
theorem witness_CrossTransmissionEnds :
    (act.port .x1).tx = none
      ∧ ((withX1 act { openPort with tx := sending .creditReset }).port .x1).tx = sending .creditReset
      ∧ ((withX1 act { openPort with tx := sending (.credit .bulk) }).port .x1).tx = sending (.credit .bulk)
      ∧ ((withX1 act { openPort with tx := sending (.control (.joinGrant 5)) }).port .x1).tx
        = sending (.control (.joinGrant 5))
      ∧ ((withX1 act { openPort with tx := sending (.bulk (.closeMark 6 none)) }).port .x1).tx
        = sending (.bulk (.closeMark 6 none))
      ∧ (((withX1 (transferring fun t => { t with phase := .finalQueued })
          { openPort with tx := sending (.bulk (.closeMark 6 (some []))) }).port .x1).tx
            = sending (.bulk (.closeMark 6 (some [])))
        ∧ (transferring fun t => { t with phase := .finalQueued }).transfer.map (fun t => (t.port, t.phase, t.queue))
            = some (.x1, .finalQueued, []))
      ∧ act.transfer = none := by decide
theorem witness_CrossReceiverHandlesBrokenFrames :
    (State.reset.port .x1).inside = false
      ∧ (((withX1 act { openPort with rx := .closed }).port .x1).inside = true
        ∧ ((6 : BitVec 16).toNat < 7 ∧ 1031 < (1032 : BitVec 16).toNat))
      ∧ ((withX1 act openPort.drain).port .x1).rx = .draining
      ∧ ((act.port .x1).rx = .opened ∧ act.receive = none)
      ∧ ((receiving none .applying).port .x1).rx = .opened
      ∧ (receiving none .applying).receive.map (·.port) = some .x1 := by decide

/-- A good frame that lane B sends to X1. -/
theorem witness_goodArrival (s : State) (m : CrossMsg) (kind cls : Byte) (body : List Byte)
    (inside : (s.port .x1).inside = true) (size : body.length ≤ 1024) (parses : parseCross kind body = some m)
    (ofClass : cls.toNat = m.classCode) (peer : s.peer .x1 = some .b) (ours : s.installation = 1) :
    GoodArrival s .x1 kind cls 1 1 body (crc32 (crossCovered kind cls 1 1 body)) m :=
  { inside, size, check := rfl, parses, ofClass, fromPeer := ⟨.b, peer, rfl⟩, ours := ours.symm }

theorem witness_GoodCrossFramesTakenInOpen :
    (GoodArrival (holding act (.joinGrant 4)) .x1 0x23 1 1 1 [0, 0, 0, 5] (crc32 (crossCovered 0x23 1 1 1 [0, 0, 0, 5]))
        (.control (.joinGrant 5)) ∧ ((holding act (.joinGrant 4)).port .x1).rx = .opened
      ∧ ((holding act (.joinGrant 4)).port .x1).control.length < 2)
      ∧ (GoodArrival (receiving none .applying) .x1 0x31 2 1 1 [6, 0, 1, 0, 3]
          (crc32 (crossCovered 0x31 2 1 1 [6, 0, 1, 0, 3])) (.bulk (.update 6 1 3))
        ∧ (receiving none .applying).receivesOn .x1 = true)
      ∧ (GoodArrival act .x1 0x31 2 1 1 [6, 0, 1, 0, 3] (crc32 (crossCovered 0x31 2 1 1 [6, 0, 1, 0, 3]))
          (.bulk (.update 6 1 3)) ∧ act.receivesOn .x1 = false)
      ∧ GoodArrival act .x1 0x38 0 1 1 [2] (crc32 (crossCovered 0x38 0 1 1 [2])) (.credit .bulk)
      ∧ (GoodArrival act .x1 0x38 0 1 1 [1] (crc32 (crossCovered 0x38 0 1 1 [1])) (.credit .control) ∧ act.transfer = none)
      ∧ GoodArrival act .x1 0x39 0 1 1 [] (crc32 (crossCovered 0x39 0 1 1 [])) .creditReset
      ∧ (GoodArrival serving .x1 0x38 0 1 1 [1] (crc32 (crossCovered 0x38 0 1 1 [1])) (.credit .control)
        ∧ serving.transfer.map (fun t => (t.port, t.grantBegun)) = some (.x1, true)
        ∧ (serving.port .x1).outstandingControl ≤ 1)
      ∧ (GoodArrival serving .x1 0x39 0 1 1 [] (crc32 (crossCovered 0x39 0 1 1 [])) .creditReset
        ∧ serving.notices.length < 16)
      ∧ (GoodArrival (withX1 serving { openPort with outstandingControl := 2 }) .x1 0x38 0 1 1 [1]
          (crc32 (crossCovered 0x38 0 1 1 [1])) (.credit .control)
        ∧ 1 < ((withX1 serving { openPort with outstandingControl := 2 }).port .x1).outstandingControl)
      ∧ GoodArrival (transferring fun t => { t with port := .x2 }) .x1 0x38 0 1 1 [1]
          (crc32 (crossCovered 0x38 0 1 1 [1])) (.credit .control) := by
  refine ⟨⟨witness_goodArrival _ _ _ _ _ ?_ ?_ ?_ ?_ ?_ ?_, ?_, ?_⟩, ⟨witness_goodArrival _ _ _ _ _ ?_ ?_ ?_ ?_ ?_ ?_, ?_⟩,
    ⟨witness_goodArrival _ _ _ _ _ ?_ ?_ ?_ ?_ ?_ ?_, ?_⟩, witness_goodArrival _ _ _ _ _ ?_ ?_ ?_ ?_ ?_ ?_,
    ⟨witness_goodArrival _ _ _ _ _ ?_ ?_ ?_ ?_ ?_ ?_, ?_⟩, witness_goodArrival _ _ _ _ _ ?_ ?_ ?_ ?_ ?_ ?_,
    ⟨witness_goodArrival _ _ _ _ _ ?_ ?_ ?_ ?_ ?_ ?_, ?_, ?_⟩, ⟨witness_goodArrival _ _ _ _ _ ?_ ?_ ?_ ?_ ?_ ?_, ?_⟩,
    ⟨witness_goodArrival _ _ _ _ _ ?_ ?_ ?_ ?_ ?_ ?_, ?_⟩, witness_goodArrival _ _ _ _ _ ?_ ?_ ?_ ?_ ?_ ?_⟩ <;> decide
/-- Credits that arrive at a DRAINING port, of a part that serves on it, serves on the other and serves nobody. -/
theorem witness_GoodCrossFramesTakenInOpen_draining :
    GoodArrival (withX1 act openPort.drain) .x1 0x38 0 1 1 [2] (crc32 (crossCovered 0x38 0 1 1 [2])) (.credit .bulk)
      ∧ GoodArrival (withX1 serving openPort.drain) .x1 0x38 0 1 1 [1] (crc32 (crossCovered 0x38 0 1 1 [1]))
          (.credit .control)
      ∧ GoodArrival (withX1 serving openPort.drain) .x1 0x39 0 1 1 [] (crc32 (crossCovered 0x39 0 1 1 [])) .creditReset
      ∧ ((withX1 serving openPort.drain).port .x1).rx = .draining
      ∧ (withX1 serving openPort.drain).transfer.map (·.port) = some .x1 ∧ (withX1 act openPort.drain).transfer = none := by
  refine ⟨witness_goodArrival _ _ _ _ _ ?_ ?_ ?_ ?_ ?_ ?_, witness_goodArrival _ _ _ _ _ ?_ ?_ ?_ ?_ ?_ ?_,
    witness_goodArrival _ _ _ _ _ ?_ ?_ ?_ ?_ ?_ ?_, ?_⟩ <;> decide
theorem witness_OtherCrossFramesDiscarded :
    (act.port .x1).inside = true ∧ (List.replicate 1024 (0 : Byte)).length ≤ 1024
      ∧ ((withX1 act { openPort with rx := .closed }).port .x1).rx = .closed
      ∧ ((withX1 act openPort.drain).port .x1).rx = .draining
      ∧ (0 : BitVec 32) ≠ crc32 (crossCovered 0x23 1 1 1 [])
      ∧ parseCross 0x26 [] = none
      ∧ (parseCross 0x23 [0, 0, 0, 5] = some (.control (.joinGrant 5)) ∧ (2 : Byte).toNat ≠ 1)
      ∧ (act.peer .x1 = some .b ∧ (2 : Byte).toNat ≠ laneCode (some .b))
      ∧ (act.installation ≠ 2 ∧ (1 : Byte).toNat = laneCode (some .b))
      ∧ (holding act (.joinGrant 5)).x1.control.length < 2
      ∧ 2 ≤ (withX1 act { openPort with control := [.joinGrant 5, .joinGrant 5] }).x1.control.length
      ∧ ((act.port .x1).rx = .opened ∧ act.receive = none)
      ∧ (parseCross 0x31 [6, 0, 1, 0, 3] = some (.bulk (.update 6 1 3)) ∧ (2 : Byte).toNat = 2
        ∧ 6 ≤ (withX1 (receiving none .applying)
          { openPort with bulk := List.replicate 6 (.update 6 1 3) }).x1.bulk.length)
      ∧ (((receiving none .applying).port .x1).inside = true ∧ ((receiving none .applying).port .x1).rx = .opened
        ∧ (receiving none .applying).receive.map (·.port) = some .x1) := by decide +kernel
theorem witness_CrossMessagesSurviveTransmission :
    (CrossMsg.control (.digestNotice 6 (list ⟨.active, some 1⟩ ⟨.excluded, none⟩) [⟨255, ⟨65535, 65535⟩⟩])).WellFormed
      ∧ (CrossMsg.bulk (.imageBlock 255 65535 (List.replicate 32 0))).WellFormed := by
  simp [CrossMsg.WellFormed, StandingList.Proper, StandingEntry.Proper, list, DigestEntry.Fits, Config.requestWords]
theorem witness_IdentifyRepliesInEveryState : (asked State.reset .identify).entering = some .identify := by decide
theorem witness_ReadStandingRepliesOutsideInit :
    (asked act .readStanding).entering = some .readStanding ∧ (asked act .readStanding).part ≠ .init
      ∧ (asked State.reset .readStanding).entering = some .readStanding ∧ State.reset.part = .init := by decide
theorem witness_StatusReportsEveryItem :
    (asked serving .status).entering = some .status ∧ serving.part ≠ .init ∧ serving.transfer.isSome = true
      ∧ ((receiving none .applying).transfer = none ∧ (receiving none .applying).receive.isSome = true)
      ∧ (askingB.receive = none ∧ askingB.join.isSome = true) := by decide
theorem witness_SettingsTakenInConfigOnly :
    (asked config (.setInstallation 0)).entering = some (.setInstallation 0) ∧ config.part = .config
      ∧ act.part ≠ .config
      ∧ (asked config (.setTiming ⟨some 0, some 65535, none, some 10, some 256, none⟩)).entering
        = some (.setTiming ⟨some 0, some 65535, none, some 10, some 256, none⟩) := by decide
theorem witness_DirectoryDefinedAndClearedInConfig :
    (asked config (.defineTable 31 .localKind 4096 0 15)).entering = some (.defineTable 31 .localKind 4096 0 15)
      ∧ config.part = .config ∧ act.part ≠ .config ∧ 31 < 32
      ∧ (∃ t ∈ config.tables, t.number = 1) ∧ (∀ t ∈ config.tables, t.number ≠ 31) ∧ 4096 < 4097
      ∧ (TableKind.vital ≠ .localKind ∧ 14 ≠ 12) ∧ 15 < 16 ∧ config.totalLength + 4096 ≤ 32768
      ∧ 32768 < { config with tables := List.replicate 8 { vital with length := 4096 } }.totalLength + 1
      ∧ (asked config .clearDirectory).entering = some .clearDirectory := by decide
theorem witness_FaultRequestsReportThenClear :
    (asked act (.faultReport (List.replicate 16 true) true)).entering = some (.faultReport (List.replicate 16 true) true)
      ∧ act.part ≠ .init ∧ 15 < act.counters.length
      ∧ (asked State.reset (.setNoticeMask [])).entering = some (.setNoticeMask []) ∧ State.reset.part = .init := by
  decide

/-- A notice that is no FAULT NOTICE. -/
def voteNotice : Notice := .vote ⟨6, .agreed, none, .allPresent, .self, .present, .present, []⟩

theorem witness_RecordingCountsLogsAndNotifies :
    act.masks[FaultKind.wordCorrected.number]? = some true ∧ act.masks[FaultKind.doubleLoss.number]? = some false
      ∧ { act with notices := List.replicate 15 voteNotice }.notices.length < 16
      ∧ (16 ≤ { act with notices := List.replicate 16 voteNotice }.notices.length ∧ voteNotice.isFault = false)
      ∧ { act with notices := List.replicate 15 voteNotice ++ Notice.fault (act.bareFault .doubleLoss) 1 :: [] }.notices
        = List.replicate 15 voteNotice ++ Notice.fault (act.bareFault .doubleLoss) 1 :: [] := by decide
theorem witness_FaultConsequencesByPartState :
    act.part = .active ∧ (act.bareFault .doubleLoss).kind.class = .laneFatal
      ∧ (act.bareFault .wordCorrected).kind.class ≠ .laneFatal ∧ config.part = .config ∧ act.ownLane = some .a
      ∧ (askingB.part = .joining ∧ askingB.join.isSome = true)
      ∧ ((receiving none .applying).part = .receiving
        ∧ (receiving none .failing).receive.map (·.phase) = some .failing
        ∧ (receiving none .applying).receive.map (·.phase) = some .applying
        ∧ ((receiving none .applying).port .x1).send = [] ∧ (receiving none .applying).vitalTables ≠ []
        ∧ { receiving none .applying with tables := [loc] }.vitalTables = []) := by
  decide

/-! The store and the image requests. -/

theorem witness_ArbiterGrantsLowestPosition :
    State.reset.storeGrant = .storeClear
      ∧ ((scrubbing act 0).grant (by_ .lane) .scrubRead).map (·.1) = some .scrub
      ∧ ((scrubbing act 0).storeGrant = .free ∧ (scrubbing act 0).waitsUnder (by_ .lane) .scrub = true
        ∧ (scrubbing act 0).nextAccess .scrub = some .scrubRead
        ∧ (scrubbing act 0).waitsUnder (by_ .lane) .lane = false) := by decide
theorem witness_StoreReadHasThreeResults :
    act.store.wf = true ∧ bitCount ((act.store.get 0).flips ^^^ 0) = 0 ∧ bitCount ((act.store.get 0).flips ^^^ 0x200000) = 1
      ∧ bitCount ((act.store.get 0).flips ^^^ 3) = 2 ∧ 3 ≤ bitCount ((act.store.get 0).flips ^^^ 7) := by decide
theorem witness_ChangePathHasEveryEffect :
    act.tableAt 1 = some vital ∧ config.tableAt 1 = some vital.unestablish ∧ config.part = .config
      ∧ act.part ≠ .init ∧ act.part ≠ .config ∧ vital.unestablish.working = none ∧ vital.working = some ⟨7, 9⟩
      ∧ ((establishing false).establish.map (fun e => ((establishing false).tables[e.index]?.map (·.number), decide (0 < e.offset)))
          = some (some 1, true)
        ∧ ((establishing false).tableAt 0).map (·.working) = some none)
      ∧ 1 ∈ { act with changeList := [1] }.changeList
      ∧ (1 ∉ { act with changeList := List.range' 2000 1023 }.changeList
        ∧ { act with changeList := List.range' 2000 1023 }.changeList.length < 1024)
      ∧ 1024 ≤ { act with changeList := List.range' 2000 1024 }.changeList.length
      ∧ ((verifying ⟨5, 5⟩).verify.map (fun v => (v.walk[v.index]?, decide (0 < v.cursor))) = some (some 1, true))
      ∧ ((transferring fun t => { t with cursorOffset := 2, queue := List.replicate 63 (.update 1 0 4) }).transfer.map
        (fun t => (t.phase, t.behind 1 1, decide (t.queue.length < 64))) = some (.sending, true, true))
      ∧ serving.transfer.map (·.behind 1 1) = some false
      ∧ act.transfer = none ∧ act.verify = none := by decide +kernel
theorem witness_DigestFollowsEveryKnownChange :
    1 < [(3 : Word), 2].length ∧ act.store.wf = true ∧ act.tableAt 1 = some vital
      ∧ vital.working = some (digestOf vital.number vital.length (act.words vital)) := by decide +kernel
theorem witness_ReadTakenAndServedWordByWord :
    (asked act (.read 1 1 32)).entering = some (.read 1 1 32) ∧ act.table? 1 = some vital ∧ act.table? 2 = none
      ∧ (doing act (.read 1 0 2) (.read 2 [])).serving?.map (·.progress) = some (.serving (.read 2 []))
      ∧ (doing { act with lostList := [0] } (.read 1 0 2) (.read 2 [])).looksLost .lane = true
      ∧ ((doing act (.read 1 0 2) (.read 2 [])).looksLost .lane = false
        ∧ reads (doing act (.read 1 0 2) (.read 2 [])) (by_ .lane) .lane .laneRead 0 = some (some 3))
      ∧ reads (doing act (.read 1 0 2) (.read 2 [3])) (by_ .lane) .lane .laneRead 1 = some (some 2)
      ∧ reads (doing act (.read 1 0 2) (.read 2 [])) (bad .lane) .lane .laneRead 0 = some none := by decide
theorem witness_WritingRequestsTakenByStateAndKind :
    (asked act (.write 1 0 2 [1, 2])).entering = some (.write 1 0 2 [1, 2])
      ∧ (asked act (.writeMasked 1 1 0 0)).entering = some (.writeMasked 1 1 0 0)
      ∧ (asked act (.safeFill 6)).entering = some (.safeFill 6)
      ∧ (act.table? 1 = some vital ∧ act.table? 6 = some loc ∧ act.table? 7 = some stat ∧ act.table? 9 = none)
      ∧ (act.part ≠ .config ∧ excluded.part ∉ [PartState.config, .active]
        ∧ askingB.part ∉ [PartState.config, .active, .excluded, .receiving])
      ∧ State.reset.part = .init ∧ ¬ (2 = 0 ∨ 32 < 2 ∨ vital.length < 0 + 2) ∧ vital.length < 0 + 3
      ∧ vital.base + 1 ∈ [1] := by decide
theorem witness_WritingRequestsChangeWordByWord :
    ((doing act (.write 1 0 2 [1, 2]) (.write 1)).serving?.map (·.progress) = some (.serving (.write 1))
      ∧ lostAt (doing act (.write 1 0 2 [1, 2]) (.write 1)) (by_ .lane) .lane .laneChange = some []
      ∧ reads (doing act (.write 1 0 2 [1, 2]) (.write 1)) (by_ .lane) .lane .laneChange 1 = some (some 2)
      ∧ reads (doing act (.write 1 0 2 [1, 2]) (.write 1)) (bad .lane) .lane .laneChange 1 = some none
      ∧ lostAt (doing { act with lostList := [1] } (.write 1 0 2 [1, 2]) (.write 1)) (by_ .lane) .lane .laneChange
        = some [1])
      ∧ (doing excluded (.write 1 0 2 [1, 2]) (.write 1)).atWork .lane = true
      ∧ ((match excluded.writeTable 1 with | .error st => some st | .ok _ => none) = some .wrongState)
      ∧ (reads (doing act (.safeFill 6) (.fill 1)) (by_ .lane) .lane .laneChange 3 = some (some 0)
        ∧ reads (doing act (.safeFill 6) (.fill 1)) (bad .lane) .lane .laneChange 3 = some none
        ∧ (match act.writeTable 6 with | .ok t => some t | .error _ => none) = some loc)
      ∧ (doing { act with lostList := [1] } (.writeMasked 1 1 0xFF 0) .masked).looksLost .lane = true
      ∧ (lostAt (doing { act with lostList := [1], waiting := act.waiting.set .lane true } (.writeMasked 1 1 0xFF 0) .masked)
          (by_ .lane) .lane .laneChange = some [1]
        ∧ (doing { act with lostList := [1], waiting := act.waiting.set .lane true } (.writeMasked 1 1 0xFF 0)
          .masked).looksLost .lane = false)
      ∧ reads (doing act (.writeMasked 1 1 0xFF 0) .masked) (bad .lane) .lane .laneChange 1 = some none
      ∧ ((doing act (.writeMasked 1 1 0xFF 0) .masked).looksLost .lane = false
        ∧ reads (doing act (.writeMasked 1 1 0xFF 0) .masked) (by_ .lane) .lane .laneChange 1 = some (some 2)) := by
  decide

/-! Cycles, starting and joining. -/

theorem witness_CloseCycleChecksThenOpensRecord :
    (asked { act with changeList := [1] } (.closeCycle 6)).entering = some (.closeCycle 6) ∧ act.part = .active
      ∧ (6 : Cycle) = act.cycle + 1 ∧ act.vote = none ∧ act.lostList = [] ∧ (∀ t ∈ act.tables, t.unsettled = false)
      ∧ (act.wide = false ∧ act.checkpointValid = true ∧ { act with changeList := [1] }.changeList ≠ [])
      ∧ (act.changeList = [] ∧ { act with tables := [], checkpointValid := false }.totalLength = 0)
      ∧ ({ act with wide := true }.wide = true ∧ 0 < act.totalLength)
      ∧ { act with cycle := 4294967295 }.cycle = 4294967295
      ∧ (voting none none).vote.isSome = true ∧ excluded.part ≠ .active
      ∧ (∃ t ∈ { act with tables := [{ vital with unsettled := true }] }.tables, t.unsettled = true) := by decide
/-- A close of origin MARK that this frame's mark has caused. -/
def markClosing (m : BulkMsg) : State :=
  { receiving (some (m, 0)) .closing with
    close := some ⟨.mark, 6, .partialKind, 0, .copy, 0, false, false, .none, none, true⟩ }

/-- A copy pass at word 0, on whose pair the scrub unit has a decision. -/
def beside (todo : List DecisionStep) : State :=
  { closing .copy none with loss := act.loss.set .scrub (.deciding ⟨0, todo⟩) }

/-- The close of a mark over word 0, in this pass. -/
def markCopying (pass : ClosePass) (value : Option Word) (copyFailed : Bool) : State :=
  { markClosing (.closeMark 6 none) with
    changeList := [0], close := some ⟨.mark, 6, .partialKind, 1, pass, 0, false, copyFailed, .none, value, false⟩ }

theorem witness_CheckPassReadsEveryCoveredWord :
    (closing .check none).close.map (fun c => (c.pass, c.origin)) = some (.check, .lane)
      ∧ { closing .check none with lostList := [0] }.looksLost .cycle = true
      ∧ ((closing .check none).looksLost .cycle = false
        ∧ reads (closing .check none) (by_ .cycle) .cycle .closeCheck 0 = some (some 3)
        ∧ reads (closing .check none) (bad .cycle) .cycle .closeCheck 0 = some none
        ∧ (closing .check none).close.bind (closing .check none).closeWord = some 0)
      ∧ (closing .check none).close.bind (fun c => (closing .check none).closeWord { c with position := 1 }) = none
      ∧ { closing .check none with lostList := [9] }.lostList ≠ []
      ∧ { closing .check none with tables := [{ vital with unsettled := true }] }.unsettledTables ≠ []
      ∧ { markCopying .check none false with lostList := [0] }.looksLost .cycle = true
      ∧ ((markCopying .check none false).close.map (fun c => (c.pass, c.origin)) = some (.check, .mark)
        ∧ (markCopying .check none false).receive.map (·.phase) = some .closing
        ∧ reads (markCopying .check none false) (by_ .cycle) .cycle .closeCheck 0 = some (some 3)
        ∧ (markCopying .check none false).vitalTables ≠ []
        ∧ { markCopying .check none false with tables := [loc] }.vitalTables = []) := by decide
theorem witness_CopyPassCopiesEveryCoveredWord :
    (closing .copy none).close.map (·.pass) = some .copy ∧ (closing .copy none).looksLost .cycle = false
      ∧ (closing .copy none).close.bind (closing .copy none).closeWord = some 0
      ∧ reads (closing .copy none) (by_ .cycle) .cycle .closeCopy 0 = some (some 3)
      ∧ ((closing .copy (some 3)).close.map (·.value) = some (some 3)
        ∧ ((closing .copy (some 3)).grantWork (by_ .cycle) .cycle .closeCopy).isSome = true)
      ∧ (reads (closing .copy none) (bad .cycle) .cycle .closeCopy 0 = some none
        ∧ (closing .copy none).decidedByOther .cycle 0 = false)
      ∧ ((markCopying .copy (some 3) true).close.map (fun c => (c.origin, c.value, c.copyFailed))
          = some (.mark, some 3, true)
        ∧ ((markCopying .copy (some 3) true).grantWork (by_ .cycle) .cycle .closeCopy).isSome = true
        ∧ (markCopying .copy (some 3) true).close.bind
          (fun c => (markCopying .copy (some 3) true).closeWord { c with position := 1 }) = none)
      ∧ (reads (markCopying .copy none false) (bad .cycle) .cycle .closeCopy 0 = some none
        ∧ (markCopying .copy none false).decidedByOther .cycle 0 = false
        ∧ (markCopying .copy none false).part = .receiving
        ∧ (markCopying .copy none false).receive.map (·.phase) = some .closing)
      ∧ ((closing .copy none).tableAt 0 = some vital ∧ (closing .copy none).part = .active) := by decide

/-- The copy pass at a word on the lost list, followed by another covered word and as the last, and at a word in the
scrub unit's decision, with a change to make and without. -/
theorem witness_CopyPassCopiesEveryCoveredWord_lost :
    { closing .copy none with lostList := [0] }.looksLost .cycle = true
      ∧ (closing .copy none).receive = none ∧ (closing .copy none).close.map (·.origin) = some .lane
      ∧ (closing .copy none).close.bind (fun c => (closing .copy none).closeWord { c with position := 1 }) = none
      ∧ { closing .copy none with changeList := [0, 1] }.close.bind
        (fun c => ({ closing .copy none with changeList := [0, 1] } : State).closeWord
          { c with position := 1, coverCount := 2 }) = some 1
      ∧ { markCopying .copy none false with lostList := [0] }.looksLost .cycle = true
      ∧ (beside [.clear 32768 0, .safeChange 0 5]).looksLost .cycle = false
      ∧ reads (beside [.clear 32768 0, .safeChange 0 5]) (bad .cycle) .cycle .closeCopy 0 = some none
      ∧ (beside [.clear 32768 0, .safeChange 0 5]).decidedByOther .cycle 0 = true
      ∧ reads (beside [.readOther]) (bad .cycle) .cycle .closeCopy 0 = some none
      ∧ (beside [.readOther]).decidedByOther .cycle 0 = true := by decide

/-- A lane close that completes in ACTIVE with the vote left open and with it decided, outside ACTIVE, and at a donor;
each state of the block in assembly and of the outbound queue; and each case of the auto-verify count. -/
theorem witness_CloseCompletionSetsCheckpoint :
    (closing .copy none).close.map (·.origin) = some .lane ∧ act.part = .active ∧ excluded.part ≠ .active
      ∧ notMissing (act.ballot 6 .x1) = false
      ∧ (let s := voting (some ⟨6, [⟨1, ⟨7, 9⟩⟩]⟩) (some ⟨6, [⟨1, ⟨7, 9⟩⟩]⟩)
        notMissing (s.ballot 6 .x1) = true ∧ notMissing (s.ballot 6 .x2) = true
        ∧ (voteResult (s.workingPairs fun k => k = .vital) (s.ballot 6 .x1) (s.ballot 6 .x2)).1 = .agreed)
      ∧ (let s := voting (some ⟨6, [⟨1, ⟨7, 9⟩⟩]⟩) (some ⟨6, [⟨1, ⟨8, 9⟩⟩]⟩)
        (voteResult (s.workingPairs fun k => k = .vital) (s.ballot 6 .x1) (s.ballot 6 .x2)).1 = .otherExcluded .c
        ∧ 2 ≤ (s.standings.set .c ⟨.excluded, none, some .vote⟩).activeCount)
      ∧ (let s := voting (some ⟨6, [⟨1, ⟨8, 9⟩⟩]⟩) (some ⟨6, [⟨1, ⟨8, 9⟩⟩]⟩)
        (voteResult (s.workingPairs fun k => k = .vital) (s.ballot 6 .x1) (s.ballot 6 .x2)).1 = .selfExcluded)
      ∧ (let s := voting (some ⟨6, [⟨1, ⟨8, 9⟩⟩]⟩) (some ⟨6, [⟨1, ⟨7, 8⟩⟩]⟩)
        (voteResult (s.workingPairs fun k => k = .vital) (s.ballot 6 .x1) (s.ballot 6 .x2)).1 = .halted)
      ∧ (serving.standingOf .b ∈ [Standing.unknown, .joining]
        ∧ { serving with standings := act.standings }.standingOf .b ∉ [Standing.unknown, .joining])
      ∧ (act.transfer = none ∧ serving.transfer.map (fun t => (t.phase, t.queue, t.block))
          = some (.sending, [], some ⟨1, 0, [], false⟩)
        ∧ (∀ d, serving.loss.donor ≠ .deciding d)
        ∧ { serving with loss := serving.loss.set .donor (.deciding ⟨1, [.readOther]⟩) }.loss.donor
          = .deciding ⟨1, [.readOther]⟩
        ∧ (transferring fun t => { t with block := none, phase := .finalQueued }).transfer.map
          (fun t => (t.phase, t.block)) = some (.finalQueued, none)
        ∧ (transferring fun t => { t with block := some ⟨1, 0, [3], true⟩ }).transfer.bind (·.block)
          = some ⟨1, 0, [3], true⟩
        ∧ (transferring fun t => { t with queue := List.replicate 64 (.update 1 0 4) }).transfer.map
          (fun t => decide (64 ≤ t.queue.length)) = some true) := by
  refine ⟨rfl, rfl, ?_, rfl, ?_, ?_, ?_, ?_, ?_, rfl, rfl, fun d h => ?_, rfl, rfl, rfl, ?_⟩ <;> first | decide | cases h
theorem witness_CloseCompletionSetsCheckpoint_verify :
    let every := fun (n : Nat) (s : State) => ({ s with timings := { s.timings with autoVerify := n } } : State)
    act.timings.autoVerify = 0 ∧ (act.autoCount + 1 < (every 2 act).timings.autoVerify)
      ∧ ((every 1 act).timings.autoVerify ≠ 0 ∧ (every 1 act).timings.autoVerify ≤ act.autoCount + 1)
      ∧ (act.verify = none ∧ act.establish = none ∧ act.part ∈ [PartState.active, .excluded, .receiving])
      ∧ (verifying ⟨5, 5⟩).verify ≠ none
      ∧ ({ act with tables := [loc] } : State).tablesOf (fun k => k ≠ .localKind) = []
      ∧ act.tablesOf (fun k => k ≠ .localKind) = vital :: [stat]
      ∧ (act.table? vital.number = some vital ∧ act.table? stat.number = some stat ∧ vital.base ∉ act.lostList)
      ∧ (vital.base ∈ { act with lostList := [0] }.lostList ∧ stat.base ∉ { act with lostList := [0] }.lostList)
      ∧ ({ act with tables := [vital] } : State).tablesOf (fun k => k ≠ .localKind) = vital :: [] := by decide

theorem witness_FinalMarkDecidesResynchronisation :
    (markClosing (.closeMark 6 none)).close.map (·.origin) = some .mark
      ∧ (markClosing (.closeMark 6 none)).part = .receiving
      ∧ (markClosing (.closeMark 6 none)).receive.map (fun r => (r.phase, r.frame))
        = some (.closing, some (.closeMark 6 none, 0))
      ∧ ((markClosing (.closeMark 6 (some [⟨1, ⟨7, 9⟩⟩, ⟨7, ⟨8, 1⟩⟩]))).workingPairs (fun k => k ≠ .localKind)
          = [⟨1, ⟨7, 9⟩⟩, ⟨7, ⟨8, 1⟩⟩]
        ∧ excluded.ownLane = some .a
        ∧ 2 ≤ (excluded.standings.set .a ⟨.active, some (successor 6), some .selfReport⟩).activeCount) := by decide
theorem witness_RollbackRestoresWordsAndPairs :
    (asked rolling .rollback).entering = some .rollback ∧ excluded.part ≠ .active ∧ rolling.checkpointValid = true
      ∧ { act with checkpointValid := false }.checkpointValid = false ∧ rolling.wide = false ∧ rolling.changeList ≠ []
      ∧ ({ act with wide := true }.wide = true ∧ 0 < act.totalLength)
      ∧ (act.changeList = [] ∧ act.lostList = [] ∧ { act with tables := [], wide := true }.totalLength = 0)
      ∧ (rolling.rollback.bind rolling.rollbackWord = some 0
        ∧ reads { rolling with rollback := some ⟨false, 0, 0, none, false, []⟩ } (by_ .cycle) .cycle .rollback 32768
          = some (some 3)
        ∧ reads { rolling with rollback := some ⟨false, 0, 0, none, false, []⟩ } (bad .cycle) .cycle .rollback 32768
          = some none
        ∧ (∀ q, rolling.loss.get q = .idle)
        ∧ { rolling with loss := rolling.loss.set .scrub (.deciding ⟨0, [.safeChange 0 3]⟩) }.loss.get .scrub
          = .deciding ⟨0, .safeChange 0 3 :: []⟩
        ∧ lostAt { rolling with lostList := [0] } (by_ .cycle) .cycle .rollback = some [0]
        ∧ reads rolling (by_ .cycle) .cycle .rollback 0 = some (some 5)
        ∧ reads { rolling with store := act.store } (by_ .cycle) .cycle .rollback 0 = some (some 3)
        ∧ reads rolling (bad .cycle) .cycle .rollback 0 = some none)
      ∧ rolling.rollbackWord ⟨false, 1, 0, none, false, []⟩ = none
      ∧ rolling.rollbackWord ⟨false, 1, 0, none, true, []⟩ = none
      ∧ { rolling with lostList := [1] }.rollbackWord ⟨false, 1, 0, none, true, []⟩ = some 1 := by
  refine ⟨by decide, by decide, by decide, by decide, by decide, by decide, by decide, by decide,
    ⟨by decide, by decide, by decide, fun q => by cases q <;> rfl, by decide, by decide, by decide, by decide,
      by decide⟩, by decide, by decide, by decide⟩
theorem witness_EstablishingPassTakesEveryWord :
    (establishing false).establish.bind (fun e => (establishing false).tables[e.index]?.map (·.number)) = some 1
      ∧ reads (establishing false) (by_ .cycle) .cycle .establishRead 1 = some (some 2)
      ∧ reads (establishing false) (bad .cycle) .cycle .establishRead 1 = some none
      ∧ ((establishing true).grantWork (by_ .cycle) .cycle .establishWrite).isSome = true
      ∧ vital.length ≤ 1 + 1 ∧ 0 + 1 < vital.length ∧ (establishing false).tables[0 + 1]? = some loc.unestablish
      ∧ (establishing false).tables[1 + 1]? = none ∧ excluded.part ∉ [PartState.starting, .joining]
      ∧ (coldCopy.part = .starting ∧ 0 < coldCopy.totalLength)
      ∧ (askingB.part = .joining ∧ askingB.join.map (·.asked) = some [.b] ∧ askingB.standingOf .c = .active
        ∧ .c ∉ [Lane.b] ∧ askingB.portOf .c = some .x2 ∧ askingB.standingOf .a ≠ .active ∧ .b ∈ [Lane.b])
      ∧ ((establishing false).join.isSome = true ∧ (establishing false).standingOf .b ≠ .active
        ∧ (establishing false).standingOf .c ≠ .active ∧ (establishing false).portOf .a = none) := by decide
theorem witness_StartColdChecksThenEstablishes :
    (asked config .startCold).entering = some .startCold ∧ act.part ≠ .config ∧ config.part = .config
      ∧ { config with strap := 3 }.strap = 3 ∧ config.strap ≠ 3 ∧ { config with installation := 0 }.installation = 0
      ∧ config.installation ≠ 0 ∧ (∀ t ∈ [stat], t.kind ≠ .vital) ∧ (∃ v ∈ config.tables, v.kind = .vital)
      ∧ config.tables = vital.unestablish :: [loc.unestablish, stat.unestablish] := by decide
theorem witness_ColdStartCopiesThenEntersActive :
    (coldCopy.fullCopy.map (·.value) = some (some 0) ∧ (coldCopy.grantWork (by_ .cycle) .cycle .fullCopy).isSome = true)
      ∧ coldCopy.totalLength ≤ 4 + 1 ∧ 3 + 1 < coldCopy.totalLength
      ∧ reads { coldCopy with fullCopy := some ⟨1, none, false⟩ } (by_ .cycle) .cycle .fullCopy 1 = some (some 2)
      ∧ reads { coldCopy with fullCopy := some ⟨1, none, false⟩ } (bad .cycle) .cycle .fullCopy 1 = some none := by decide
theorem witness_JoinChecksRangesThenEntersJoining :
    (asked excluded (.join 1 [⟨1, 0, 2⟩])).entering = some (.join 1 [⟨1, 0, 2⟩])
      ∧ act.part ∉ [PartState.config, .excluded] ∧ excluded.part ∈ [PartState.config, .excluded]
      ∧ excluded.establish = none ∧ excluded.strap ≠ 3 ∧ { excluded with strap := 3 }.strap = 3
      ∧ excluded.installation ≠ 0 ∧ excluded.rangeRefusal ⟨1, 0, 2⟩ = none
      ∧ excluded.table? 9 = none ∧ (excluded.table? 7 = some stat ∧ stat.kind = .static)
      ∧ (excluded.table? 1 = some vital ∧ vital.kind ≠ .static ∧ vital.length < 1 + 2)
      ∧ (Range.mk 1 0 2).overlaps ⟨1, 1, 1⟩ = true ∧ (Range.mk 1 0 1).overlaps ⟨1, 1, 1⟩ = false
      ∧ excluded.tables ≠ []
      ∧ (let empty := { excluded with tables := [] }
        empty.tables = [] ∧ (asked empty (.join 1 [])).entering = some (.join 1 [])
        ∧ (empty.standingOf .b = .active ∧ empty.portOf .b = some .x1)
        ∧ (∀ m ∈ [Lane.a], empty.standingOf m ≠ .active)
        ∧ ∀ m ∈ [Lane.a, .b, .c], ({ empty with standings := ⟨out, out, out⟩ } : State).standingOf m ≠ .active) := by decide

/-! The verify pass, scrubbing and the loss decisions. -/

theorem witness_VerifyAndDigestRequestsChecked :
    (asked act .verify).entering = some .verify ∧ config.part ∉ [PartState.active, .excluded, .receiving]
      ∧ act.part ∈ [PartState.active, .excluded, .receiving] ∧ act.establish = none
      ∧ (verifying ⟨5, 5⟩).verify.isSome = true ∧ act.verify = none
      ∧ act.tablesOf (fun k => k ≠ .localKind) = vital :: [stat]
      ∧ (act.table? vital.number = some vital ∧ act.table? stat.number = some stat ∧ vital.base ∉ act.lostList)
      ∧ (vital.base ∈ { act with lostList := [0] }.lostList ∧ stat.base ∉ { act with lostList := [0] }.lostList)
      ∧ ({ act with tables := [vital] } : State).tablesOf (fun k => k ≠ .localKind) = vital :: []
      ∧ ({ act with tables := [loc] } : State).tablesOf (fun k => k ≠ .localKind) = []
      ∧ (asked act .verifyStop).entering = some .verifyStop ∧ act.part ≠ .init ∧ State.reset.part = .init
      ∧ (asked act (.readDigests [6])).entering = some (.readDigests [6])
      ∧ (∃ t ∈ (establishing false).tables, t.working = none) ∧ (∀ t ∈ act.tables, t.working ≠ none)
      ∧ (∃ n ∈ [9], act.table? n = none) ∧ [loc].map some = [6].map act.table? := by decide
theorem witness_VerifyPassSumsAndJudgesTables :
    (verifying ⟨5, 5⟩).verify.map (fun v => v.walk[v.index]?) = some (some 1)
      ∧ ((verifying ⟨5, 5⟩).atWork .verify = true ∧ (verifying ⟨5, 5⟩).waiting.verify = false
        ∧ vital.base + 1 ∈ { verifying ⟨5, 5⟩ with lostList := [1] }.lostList)
      ∧ ({ verifying ⟨5, 5⟩ with waiting := act.waiting.set .verify true }.waiting.verify = true
        ∧ reads { verifying ⟨5, 5⟩ with lostList := [1], waiting := act.waiting.set .verify true } (by_ .verify) .verify
          .verifyRead 1 = some (some 2))
      ∧ (vital.base + 1 ∉ (verifying ⟨5, 5⟩).lostList ∧ (verifying ⟨5, 5⟩).verify.map (·.skip) = some false
        ∧ reads (verifying ⟨5, 5⟩) (by_ .verify) .verify .verifyRead 1 = some (some 2)
        ∧ reads (verifying ⟨5, 5⟩) (bad .verify) .verify .verifyRead 1 = some none)
      ∧ (∃ a ∈ [1], vital.covers a = true) ∧ { vital with unsettled := true }.unsettled = true
      ∧ (vital.unsettled = false ∧ vital.working = some ⟨7, 9⟩) ∧ (⟨7, 9⟩ : Pair) ≠ ⟨8, 9⟩
      ∧ (verifying ⟨5, 5⟩).verify.map (fun v => v.walk[v.index + 1]?) = some (some 7)
      ∧ (act.table? 7 = some stat) ∧ [1, 7].length ≤ 1 + 1 := by decide
theorem witness_ScrubReadsOneWordPerTick :
    (act.pace = some 1600 ∧ act.part ≠ .init ∧ act.loss.scrub = .idle ∧ act.waiting.scrub = false)
      ∧ (deciding [.readOther]).loss.scrub = .deciding ⟨1, [.readOther]⟩ ∧ (scrubbing act 0).waiting.scrub = true
      ∧ State.reset.pace = none
      ∧ (((scrubbing act 65535).grant (by_ .scrub) .scrubRead).isSome = true ∧ (scrubbing act 65535).scrubCursor < 65536
        ∧ act.scrubPasses ≤ 65535)
      ∧ (32767 < 32768 ∧ 32767 ∈ { act with lostList := [32767] }.lostList)
      ∧ reads (scrubbing act 0) (by_ .scrub) .scrub .scrubRead 0 = some (some 3)
      ∧ reads (scrubbing act 0) (bad .scrub) .scrub .scrubRead 0 = some none
      ∧ act.decidedByOther .scrub 0 = false
      ∧ { act with loss := act.loss.set .lane (.deciding ⟨0, [.readOther]⟩) }.decidedByOther .scrub 0 = true := by decide
theorem witness_LossDecisionRowsChosenByState :
    act.tableAt 32767 = none ∧ act.tableAt 1 = some vital ∧ config.part = .config ∧ coldCopy.part = .starting
      ∧ act.part ∈ [PartState.active, .excluded, .joining, .receiving, .halted]
      ∧ (1 ∉ act.lostList ∧ ¬(1 ∈ act.changeList ∨ act.wide = true) ∧ act.checkpointValid = true)
      ∧ (1 ∈ { act with changeList := [1] }.changeList ∧ act.lostList.length < 8)
      ∧ 8 ≤ { act with lostList := [10, 11, 12, 13, 14, 15, 16, 17] }.lostList.length
      ∧ { act with checkpointValid := false }.checkpointValid = false ∧ 32768 ≤ 32769
      ∧ (1 ∈ { act with lostList := [1] }.lostList ∧ (config.tableAt 1).isSome = true ∧ (coldCopy.tableAt 1).isSome = true)
      ∧ 1 ∉ { act with lostList := [10, 11, 12, 13, 14, 15, 16, 17] }.lostList
      ∧ (32767 < 65536 ∧ 65535 < 65536 ∧ Requester.scrub ≠ .lane
        ∧ (deciding [.readOther]).loss.get .scrub = .deciding ⟨1, [.readOther]⟩)
      ∧ act.loss = ⟨.idle, .idle, .idle, .idle, .idle, .idle⟩
      ∧ (rolling.rollback.map (·.restored) = some 0 ∧ rolling.checkpointValid = true ∧ act.rollback = none)
      ∧ (0 ∈ rolling.changeList ∧ (rolling.tableAt 0).isSome = true
        ∧ (1 ∉ rolling.changeList ∧ 1 ∉ rolling.lostList ∧ rolling.wide = false))
      ∧ (rolling.rollback.isSome = true ∧ rolling.close = none ∧ rolling.receive = none) := by decide
/-- A close in its copy pass waits for the scrub unit's safe change of word 1. -/
def closeWaits : State :=
  { deciding [.safeChange 1 0] with
    close := (closing .copy none).close, loss := (deciding [.safeChange 1 0]).loss.set .cycle (.retrying 1) }

theorem witness_DecisionAccessesCarryOutRows :
    ((deciding [.readOther]).grant (by_ .scrub) .decisionOther).map (fun x => (x.1, x.2.loss.scrub))
        = some (.scrub, .deciding ⟨1, [.readOther]⟩)
      ∧ ((deciding [.clear 32769 0]).grant (by_ .scrub) .decisionClear).map (fun x => (x.1, x.2.loss.scrub))
        = some (.scrub, .deciding ⟨1, [.clear 32769 0]⟩)
      ∧ ((deciding [.restore 2]).grant (by_ .scrub) .decisionRestore).map (fun x => (x.1, x.2.loss.scrub))
        = some (.scrub, .deciding ⟨1, [.restore 2]⟩)
      ∧ ((deciding [.safeChange 1 0]).grant (by_ .scrub) .decisionSafe).map (fun x => (x.1, x.2.loss.scrub))
        = some (.scrub, .deciding ⟨1, [.safeChange 1 0]⟩)
      ∧ (1 < 32768 ∧ (act.tableAt 1).isSome = true ∧ act.part ≠ .config)
      ∧ (closeWaits.grant (by_ .scrub) .decisionSafe).map
          (fun x => (x.1, (x.2.setLoss .scrub .idle).loss.cycle, x.2.close.map (·.pass)))
        = some (.scrub, .retrying 1, some .copy)
      ∧ (act.tableAt (32769 - 32768)).isSome = true ∧ act.tableAt 32767 = none
      ∧ (({ config with loss := (deciding [.clear 1 0]).loss }.grant (by_ .scrub) .decisionClear).isSome = true
        ∧ ({ config with loss := (deciding [.restore 2]).loss }.grant (by_ .scrub) .decisionRestore).isSome = true
        ∧ ({ config with loss := (deciding [.safeChange 1 0]).loss }.grant (by_ .scrub) .decisionSafe).isSome = true
        ∧ config.part = .config ∧ (config.tableAt 1).isSome = true)
      ∧ (({ coldCopy with loss := (deciding [.clear 1 0]).loss }.grant (by_ .scrub) .decisionClear).isSome = true
        ∧ coldCopy.part = .starting)
      ∧ (({ rolling with loss := (deciding [.clear 32769 0]).loss }.grant (by_ .scrub) .decisionClear).isSome = true
        ∧ rolling.rollback.isSome = true ∧ rolling.checkpointValid = true ∧ rolling.part ≠ .config) := by decide

/-- A requester with no decision meets a lost word: each kind of work that it may take up again. -/
theorem witness_DecisionAccessesCarryOutRows_resume :
    (deciding [.readOther]).loss.get .scrub ≠ .idle ∧ (∀ r, act.loss.get r = .idle) ∧ act.close = none
      ∧ ((doing act (.read 1 0 2) (.read 2 [])).serving?.map (fun e => (e.request, e.progress))
          = some (.read 1 0 2, .serving (.read 2 []))
        ∧ act.table? 1 = some vital ∧ 0 ∉ act.lostList ∧ 0 ∈ { act with lostList := [0] }.lostList)
      ∧ (doing act (.writeMasked 1 0 0xFF 0) .masked).serving?.map (·.progress) = some (.serving .masked)
      ∧ (doing act (.safeFill 6) (.fill 1)).serving?.map (·.progress) = some (.serving (.fill 1))
      ∧ ((closing .check none).close.map (fun c => (c.pass, c.origin)) = some (.check, .lane)
        ∧ (closing .check none).lostList = [] ∧ (closing .check none).unsettledTables = []
        ∧ { closing .check none with tables := [{ vital with unsettled := true }] }.unsettledTables ≠ [])
      ∧ ((markCopying .check none false).close.map (fun c => (c.pass, c.origin)) = some (.check, .mark)
        ∧ (markCopying .check none false).receive.map (·.phase) = some .closing)
      ∧ ((closing .copy none).close.map (·.pass) = some .copy
        ∧ ((closing .copy none).close.bind (closing .copy none).closeWord).isSome = true
        ∧ { closing .copy none with changeList := [] }.close.bind
          ({ closing .copy none with changeList := [] } : State).closeWord = none
        ∧ (markCopying .copy none true).close.map (·.copyFailed) = some true)
      ∧ ((receiving (some (.update 6 1 3, 0)) .applying).receive.map (fun v => (v.phase, v.frame))
          = some (.applying, some (.update 6 1 3, 0))
        ∧ frameWord (.update 6 1 3, 0) = some (6, 1, 3) ∧ act.table? 6 = some loc
        ∧ (receiving none .failing).receive.map (·.phase) = some .failing)
      ∧ serving.transfer.bind (·.block) = some ⟨1, 0, [], false⟩
      ∧ ((verifying ⟨5, 5⟩).verify.bind fun v => v.walk[v.index]?) = some 1 := by
  refine ⟨by decide, fun r => by cases r <;> rfl, ?_⟩
  decide

/-! The vote and the standings. -/

theorem witness_VoteTablesDecideOutcome :
    ([⟨1, ⟨7, 9⟩⟩] : List DigestEntry) ≠ [⟨1, ⟨8, 9⟩⟩] ∧ ([⟨1, ⟨7, 9⟩⟩] : List DigestEntry) ≠ [⟨1, ⟨7, 10⟩⟩]
      ∧ ([⟨1, ⟨8, 9⟩⟩] : List DigestEntry) ≠ [⟨1, ⟨7, 10⟩⟩] := by decide
theorem witness_VoteExpiryAppliesOutcome :
    ((voting none none).vote.map (·.cycle) = some 6 ∧ (voting none none).part = .active)
      ∧ ((voteResult [⟨1, ⟨7, 9⟩⟩] ((voting (some ⟨6, [⟨1, ⟨7, 9⟩⟩]⟩) (some ⟨6, [⟨1, ⟨7, 9⟩⟩]⟩)).ballot 6 .x1)
          ((voting (some ⟨6, [⟨1, ⟨7, 9⟩⟩]⟩) (some ⟨6, [⟨1, ⟨7, 9⟩⟩]⟩)).ballot 6 .x2)).1 = .agreed
        ∧ 2 ≤ act.standings.activeCount)
      ∧ ((voteResult [⟨1, ⟨7, 9⟩⟩] ((voting (some ⟨6, [⟨1, ⟨7, 9⟩⟩]⟩) none).ballot 6 .x1)
          ((voting (some ⟨6, [⟨1, ⟨7, 9⟩⟩]⟩) none).ballot 6 .x2)).1 = .otherExcluded .c
        ∧ 2 ≤ (act.standings.set .c ⟨.excluded, none, some .vote⟩).activeCount)
      ∧ (voteResult [⟨1, ⟨7, 9⟩⟩] ((voting none none).ballot 6 .x1) ((voting none none).ballot 6 .x2)).1 = .selfExcluded
      ∧ (voteResult [⟨1, ⟨7, 9⟩⟩] ((voting (some ⟨6, []⟩) none).ballot 6 .x1) ((voting (some ⟨6, []⟩) none).ballot 6 .x2)).1
        = .halted
      ∧ (act.peer .x1 = some .b ∧ (act.standings.get .b).activeFrom = some 1)
      ∧ (1 ≤ ((0x80000000 : Cycle) - 1).toNat ∧ ((0x80000000 : Cycle) - 1).toNat ≤ 2147483647)
      ∧ 2147483647 < ((0x80000001 : Cycle) - 1).toNat
      ∧ act.vote = none ∧ act.confirmed = true ∧ config.part ≠ .active := by decide

/-- A part that holds lane B in this standing. -/
def holdsB (st : Standing) : State := { act with standings := ⟨up, ⟨st, none, none⟩, up⟩ }

/-- Lane B, whose notice for cycle 6 is in its slot, waits with this part for lane C. -/
def waitingForC : State := voting (some ⟨6, [⟨1, ⟨7, 9⟩⟩]⟩) none

/-- The waiting part with this record of lane C. -/
def reportedC (c : StandingRecord) : State := { waitingForC with standings := ⟨up, up, c⟩ }

theorem witness_StandingNoticesApplyReportRules :
    ((holding act (.standingNotice (list ⟨.joining, none⟩ ⟨.halted, none⟩))).x1.control
        = .standingNotice (list ⟨.joining, none⟩ ⟨.halted, none⟩) :: [])
      ∧ act.ownLane = some .a ∧ peerOf .a .x1 = .b ∧ peerOf .a (otherPort .x1) = .c
      ∧ act.standingOf .b = .active ∧ act.part = .active ∧ 2 ≤ act.standings.activeCount
      ∧ (holdsB .unknown).standingOf .b ∈ [Standing.unknown, .joining]
      ∧ (holdsB .halted).standingOf .b ∈ [Standing.active, .excluded, .halted]
      ∧ ((StandingList.mk ⟨.excluded, none⟩ ⟨.active, some 1⟩ ⟨.active, some 1⟩).get .a).standing = .excluded
      ∧ (waitingForC.vote.map (·.cycle) = some 6 ∧ waitingForC.part = .active
        ∧ notMissing (waitingForC.ballot 6 .x1) = true ∧ notMissing (waitingForC.ballot 6 .x2) = false)
      ∧ (notMissing ((reportedC ⟨.excluded, none, some .peerReport⟩).ballot 6 .x1) = true
        ∧ notMissing ((reportedC ⟨.excluded, none, some .peerReport⟩).ballot 6 .x2) = true
        ∧ 2 ≤ (reportedC ⟨.excluded, none, some .peerReport⟩).standings.activeCount
        ∧ (voteResult [⟨1, ⟨7, 9⟩⟩] ((reportedC ⟨.excluded, none, some .peerReport⟩).ballot 6 .x1)
          ((reportedC ⟨.excluded, none, some .peerReport⟩).ballot 6 .x2)).1 = .agreed)
      ∧ ((receiving none .applying).part = .receiving
        ∧ (receiving none .applying).receive.map (·.phase) = some .applying
        ∧ (receiving none .applying).standingOf .b = .active ∧ (receiving none .applying).vitalTables ≠ []
        ∧ { receiving none .applying with tables := [loc] }.vitalTables = [])
      ∧ ({ act with strap := 3 }.ownLane = none ∧ act.transfer = none ∧ act.receive = none) := by decide
/-- The joining lane, and then both peers, report themselves to a part that serves lane B. -/
theorem witness_StandingNoticesApplyReportRules_serving :
    let told := fun (s : State) (l : StandingList) => closeStandings s.standings (applyList (s.freeControl .x1) .x1 l)
    serving.part = .active ∧ serving.transfer.map (·.lane) = some .b ∧ serving.notices.length < 14
      ∧ (told serving (list ⟨.active, some 6⟩ ⟨.active, some 1⟩)).standingOf .b = .active
      ∧ (told serving (list ⟨.halted, none⟩ ⟨.active, some 1⟩)).standingOf .b = .halted
      ∧ (told serving (list ⟨.joining, none⟩ ⟨.active, some 1⟩)).part = .active
      ∧ (let left := told { serving with transfer := serving.transfer.map fun t => { t with lane := .c, port := .x2 }
                                         standings := ⟨up, up, { out with standing := .joining }⟩ }
          (list ⟨.halted, none⟩ ⟨.joining, none⟩)
        left.standingOf .c = .joining ∧ left.part ≠ .active) := by decide +kernel
theorem witness_DigestNoticesPlacedOrStale :
    ((holding act (.digestNotice 6 (list ⟨.active, some 1⟩ ⟨.active, some 1⟩) [])).x1.control
        = .digestNotice 6 (list ⟨.active, some 1⟩ ⟨.active, some 1⟩) [] :: [])
      ∧ act.peer .x1 = some .b
      ∧ (applyList act .x1 (list ⟨.active, some 1⟩ ⟨.active, some 1⟩)).1.part = .active
      ∧ (applyList act .x1 (list ⟨.active, some 1⟩ ⟨.active, some 1⟩)).1.standingOf .b ∉ [Standing.excluded, .halted]
      ∧ (applyList act .x1 (list ⟨.excluded, none⟩ ⟨.active, some 1⟩)).1.standingOf .b ∈ [Standing.excluded, .halted]
      ∧ later 5 act.lastVoted = false ∧ later 6 act.lastVoted = true ∧ act.slot .x1 = none
      ∧ (voting (some ⟨7, []⟩) none).slot .x1 = some ⟨7, []⟩ := by decide +kernel

/-! Resynchronisation. -/

theorem witness_JoiningPartAsksEachActivePeerOnce :
    (askingB.join.map (fun j => (j.phase, j.asked, j.current, j.timer)) = some (.asking, [.b], some .b, some 250))
      ∧ (askingB.standingOf .c = .active ∧ .c ∉ [Lane.b] ∧ askingB.portOf .c = some .x2)
      ∧ (askingB.standingOf .a ≠ .active ∧ .b ∈ [Lane.b])
      ∧ (holding askingB (.joinRefuse .serving)).x1.control = .joinRefuse .serving :: []
      ∧ askingB.peer .x1 = some .b ∧ askingB.part = .joining
      ∧ (∀ m, { askingB with standings := ⟨out, out, out⟩ }.standingOf m ≠ .active)
      ∧ askingB.join.map (·.last) = some (some .b)
      ∧ (holding askingB (.joinGrant 9)).x1.control = .joinGrant 9 :: []
      ∧ act.join = none := by
  refine ⟨by decide, by decide, by decide, by decide, by decide, by decide, ?_, by decide, by decide, by decide⟩
  intro m; cases m <;> decide
theorem witness_DonorAnswersJoinAskInOrder :
    askedByB.x1.control = .joinAsk [⟨1, .vital, 2⟩, ⟨6, .localKind, 2⟩, ⟨7, .static, 1⟩] [⟨7, ⟨8, 1⟩⟩] [] :: []
      ∧ askedByB.peer .x1 = some .b ∧ askedByB.part = .active ∧ excluded.part ≠ .active ∧ serving.transfer.isSome = true
      ∧ askedByB.transfer = none ∧ askedByB.vote = none
      ∧ (askedByB.tables.map fun t => (⟨t.number, t.kind, t.length⟩ : SummaryEntry))
        = [⟨1, .vital, 2⟩, ⟨6, .localKind, 2⟩, ⟨7, .static, 1⟩]
      ∧ askedByB.workingPairs (fun k => k = .static) = [⟨7, ⟨8, 1⟩⟩]
      ∧ askedByB.standingOf .b = .joining ∧ 2 ≤ askedByB.standings.activeCount
      ∧ ((holdsB .excluded).standingOf .b ≠ .joining
        ∧ ({ act with standings := ⟨up, up, out⟩ }.standings.set .b ⟨.joining, none, some .selfReport⟩).activeCount < 2)
      ∧ (let asker : StandingRecord := ⟨.joining, none, some .selfReport⟩
        let s := { act with standings := ⟨up, asker, up⟩ }
        s.standings ≠ act.standings ∧ 2 ≤ s.standings.activeCount
        ∧ notMissing ({ voting none (some ⟨6, []⟩) with standings := s.standings }.ballot 6 .x1) = true
        ∧ notMissing ({ voting none (some ⟨6, []⟩) with standings := s.standings }.ballot 6 .x2) = true)
      ∧ { askedByB with strap := 3 }.peer .x1 = none := by decide
theorem witness_ServingAndReceivingEndOnAbortOrStall :
    (holding serving (.transferAbort .stall)).x1.control = .transferAbort .stall :: []
      ∧ serving.transfer.map (·.port) = some .x1 ∧ serving.notices.length < 16
      ∧ ((receiving none .applying).transfer = none
        ∧ (receiving none .applying).receive.map (fun v => (v.port, v.phase, v.stall)) = some (.x1, .applying, some 1000))
      ∧ ((receiving none .applying).vitalTables ≠ [] ∧ { receiving none .applying with tables := [loc] }.vitalTables = [])
      ∧ (act.transfer = none ∧ act.receive = none)
      ∧ (transferring fun t => { t with opened := false }).transfer.map (·.opened) = some false
      ∧ ((withX1 (transferring fun t => { t with block := some ⟨1, 0, [3], true⟩ })
          { openPort with outstandingBulk := 6 }).port .x1).outstandingBulk ≥ 6
      ∧ (transferring fun t => { t with phase := .awaitingVerdict }).transfer.map (·.phase) = some .awaitingVerdict
      ∧ (serving.transfer.map (·.opened) = some true ∧ (serving.port .x1).outstandingBulk < 6) := by decide
theorem witness_DonorReadsBlocksFromCursor :
    serving.transfer.bind (·.block) = some ⟨1, 0, [], false⟩ ∧ serving.table? 1 = some vital
      ∧ { serving with lostList := [0] }.looksLost .donor = true ∧ serving.looksLost .donor = false
      ∧ reads serving (by_ .donor) .donor .donorRead 0 = some (some 3)
      ∧ reads serving (bad .donor) .donor .donorRead 0 = some none
      ∧ serving.transfer.bind (fun t => t.ranges[t.cursorRange]?) = some ⟨1, 0, 2⟩
      ∧ (0 + 1 < 2 ∧ 0 + 0 + 1 < vital.length) ∧ ¬ (1 + 1 < 2)
      ∧ serving.cursorFrom [⟨9, 0, 1⟩, ⟨1, 2, 1⟩, ⟨6, 0, 2⟩] 0 = 2 ∧ serving.cursorFrom [⟨9, 0, 1⟩] 0 = 1
      ∧ [(⟨6, 0, 2⟩ : Range)][0]? = some ⟨6, 0, 2⟩ ∧ 0 < 2 := by decide
theorem witness_ReceivedFramesCheckedWhenTaken :
    (receiving none .applying).receive.map (fun v => (v.phase, v.frame, v.port)) = some (.applying, none, .x1)
      ∧ ((withX1 (receiving none .applying) { openPort with bulk := [.update 6 1 3] }).port .x1).bulk = .update 6 1 3 :: []
      ∧ ((receiving none .applying).table? 6 = some loc ∧ loc.kind ≠ .static ∧ 1 + 1 ≤ loc.length
        ∧ ∃ r ∈ [(⟨1, 0, 2⟩ : Range), ⟨6, 0, 2⟩], r.table = 6 ∧ r.first ≤ 1 + 0 ∧ 1 + 0 < r.first + r.count)
      ∧ ((receiving none .applying).lostList = [] ∧ (∀ t ∈ (receiving none .applying).tables, t.unsettled = false))
      ∧ (0 < (receiving none .applying).totalLength ∧ (receiving none .applying).transfer = none)
      ∧ { receiving none .applying with wide := true }.wide = true
      ∧ { receiving none .applying with changeList := [1] }.changeList ≠ []
      ∧ ((receiving none .applying).changeList = [] ∧ (receiving none .applying).wide = false
        ∧ (receiving none .applying).checkpointValid = true
        ∧ { receiving none .applying with tables := [], checkpointValid := false }.totalLength = 0)
      ∧ { receiving none .applying with lostList := [1] }.lostList ≠ []
      ∧ (∃ t ∈ { receiving none .applying with tables := [{ vital with unsettled := true }] }.tables, t.unsettled = true)
      ∧ ((receiving none .applying).tablesOf fun k => k ≠ .localKind).map (·.number) = [1, 7]
      ∧ (receiving none .applying).frameUsable [] (.update 7 0 3) = false := by decide
theorem witness_ReceivedWordsMergedAndFillSafe :
    (receiving (some (.update 6 1 3, 0)) .applying).receive.map (·.frame) = some (some (.update 6 1 3, 0))
      ∧ frameWord (.update 6 1 3, 0) = some (6, 1, 3) ∧ frameWord (.update 6 1 3, 1) = none
      ∧ (frameWord (.imageBlock 1 0 [3, 2], 1)).isSome = true
      ∧ reads (receiving (some (.update 6 1 3, 0)) .applying) (by_ .joiner) .joiner .resyncWrite 3 = some (some 0)
      ∧ reads (receiving (some (.update 6 1 3, 0)) .applying) (bad .joiner) .joiner .resyncWrite 3 = some none
      ∧ lostAt { receiving (some (.update 6 1 3, 0)) .applying with lostList := [3] } (by_ .joiner) .joiner .resyncWrite
        = some [3]
      ∧ (receiving none .failing).vitalTables[0]? = some vital
      ∧ reads (receiving none .failing) (by_ .joiner) .joiner .failureFill 0 = some (some 3)
      ∧ reads (receiving none .failing) (bad .joiner) .joiner .failureFill 0 = some none
      ∧ (0 + 1 < vital.length ∧ vital.length ≤ 1 + 1 ∧ (receiving none .failing).vitalTables.length ≤ 0 + 1)
      ∧ ((receiving none .applying).port .x1).rx = .opened
      ∧ ((withX1 (receiving (some (.update 6 1 3, 0)) .applying) openPort.drain).port .x1).rx ≠ .opened := by decide

/-! The invariants. -/

/-- The part with word 1 lost, in an unsettled table. -/
def losing : State := { act with changeList := [1], lostList := [1], tables := [{ vital with unsettled := true }] }

theorem witness_StoreAndDirectoryKept : losing.store.wf = true ∧ DirectoryInv losing := by
  refine ⟨by decide, ?_, by decide, ⟨rfl, trivial⟩, by decide, ?_, ?_⟩
  · intro t ht
    simp [losing] at ht
    subst ht
    exact ⟨by decide, by decide, by decide, by intro p hp; cases hp; exact ⟨by decide, by decide⟩,
      by intro p hp; cases hp; exact ⟨by decide, by decide⟩⟩
  · intro e he; simp [losing, act, State.powerOn] at he
  · intro v hv; simp [losing, act, State.powerOn] at hv
theorem witness_ChangeAndLostListsKept : DirectoryInv losing ∧ ListsInv losing := by
  refine ⟨witness_StoreAndDirectoryKept.2, ?_⟩
  exact ⟨by decide, by decide, by decide, by decide, by decide, by decide, by decide, by decide, by decide⟩
theorem witness_PartStateAndUnitRecordsKept : ModesInv act := by
  refine ⟨by decide, by decide, by decide, by decide, by decide, by decide, by decide, by decide, by decide, ?_, by decide⟩
  intro l h; cases l <;> revert h <;> decide
/-- A rollback in ACTIVE meets both invariants. -/
theorem witness_PartStateAndUnitRecordsKept_rollback :
    ModesInv rolling ∧ FlightInv rolling ∧ rolling.rollback.isSome = true := by
  refine ⟨⟨by decide, by decide, by decide, by decide, by decide, by decide, by decide, by decide, by decide, ?_,
    by decide⟩, ⟨fun _ => ⟨⟨_, rfl, rfl⟩, by decide⟩, ?_, ?_⟩, rfl⟩
  · intro l h; cases l <;> revert h <;> decide
  · intro c hc; cases hc
  · intro c hc; cases hc
theorem witness_PartStateAndUnitRecordsKept_laneClose : FlightInv (closing .check none) := by
  refine ⟨fun h => ?_, fun c hc _ => ⟨⟨_, rfl, rfl⟩, by decide⟩, fun c hc ho => ?_⟩
  · exact absurd h (by decide)
  · cases hc; cases ho
theorem witness_PartStateAndUnitRecordsKept_markClose : FlightInv (markClosing (.closeMark 6 none)) := by
  refine ⟨fun h => ?_, fun c hc ho => ?_, fun c hc _ => ⟨_, rfl, rfl⟩⟩
  · exact absurd h (by decide)
  · cases hc; cases ho
theorem witness_QueuesAndCreditsKept : QueuesInv act := by
  refine ⟨?_, ?_, by decide, by decide, by decide, ?_, by decide, by decide, by decide, by decide, by decide, by decide⟩
  · exact ⟨by decide, by decide, by decide, by decide, by decide, by decide, by decide, by decide⟩
  · exact ⟨by decide, by decide, by decide, by decide, by decide, by decide, by decide, by decide⟩
  · intro t ht; simp [act, State.powerOn] at ht

end Sys2Proof.Tests
end

section
/-! SUPPORT. What a recorded fault does to the fault log: the entry is appended, and the consequence of a lane-fatal
fault appends at most one entry more, which leaves it in the log (R166, R169, R173). -/

namespace Sys2Proof.VerifyUnit
open Sys2Proof Sys2Proof.Machine

variable (s : State)

/-! ### Operations that leave the fault log alone -/

@[simp] theorem notify_log (n : Notice) : (s.notify n).log = s.log := by
  obtain ⟨_, _, h⟩ := s.notify_touches n
  rw [h]

@[simp] theorem sendBoth_log (m : ControlMsg) : (s.sendBoth m).log = s.log := by
  obtain ⟨_, _, h⟩ := s.sendBoth_touches m
  rw [h]

@[simp] theorem setOwn_log (st : Standing) (m : Option Cycle) (x : Source) : (s.setOwn st m x).log = s.log := by
  obtain ⟨_, h⟩ := s.setOwn_touches st m x
  rw [h]

@[simp] theorem discardStray_log : s.discardStray.log = s.log := by
  obtain ⟨_, _, h⟩ := s.discardStray_touches
  rw [h]

@[simp] theorem freeProcessing_log : s.freeProcessing.log = s.log := by
  obtain ⟨_, _, _, h⟩ := s.freeProcessing_touches
  rw [h]

@[simp] theorem abortClose_log : s.abortClose.log = s.log := by
  obtain ⟨_, _, _, _, h⟩ := s.abortClose_touches
  rw [h]

@[simp] theorem sendAbort_log (p : Port) (abort : Option AbortReason) : (s.sendAbort p abort).log = s.log := by
  cases abort with
  | none => rfl
  | some r => exact s.setPort_log p _

@[simp] theorem leaveActive_log (part : PartState) (src : Source) : (s.leaveActive part src).log = s.log := by
  simp [State.leaveActive, State.sendStandings]

@[simp] theorem enterExcluded_log (src : Source) : (s.enterExcluded src).log = s.log := by
  simp [State.enterExcluded, State.sendStandings]

@[simp] theorem haltInstallation_log : s.haltInstallation.log = s.log := by
  simp [State.haltInstallation, State.sendStandings]

@[simp] theorem standingChecks_log (c : Caused) : (standingChecks c).1.log = c.1.log := by
  unfold standingChecks
  dsimp only
  split <;> split <;> simp

@[simp] theorem announce_log (before : Standings) (c : Caused) : (announce before c).log = c.1.log := by
  unfold announce
  dsimp only
  split
  · rfl
  · exact notify_log c.1 _

@[simp] theorem endServing_log (why : ServingEnd) (abort : Option AbortReason) :
    (s.endServing why abort).log = s.log := by
  unfold State.endServing
  split
  · rfl
  · simp

@[simp] theorem servingAfterStandings_log : s.servingAfterStandings.log = s.log := by
  unfold State.servingAfterStandings
  split
  · rfl
  · split
    · exact endServing_log s _ _
    · exact endServing_log s _ _
    · exact endServing_log s _ _
    all_goals
      split
      · rfl
      · exact endServing_log s _ _

@[simp] theorem endFill_log (r : ReceiveRecord) : (endFill s r).1.log = s.log := by simp [endFill]

@[simp] theorem fillNotice_log (r : ReceiveRecord) : (s.fillNotice r).log = s.log := by simp [State.fillNotice]

@[simp] theorem finishFill_log : s.finishFill.log = s.log := by
  unfold State.finishFill
  split
  · rfl
  · simp

@[simp] theorem closeStandings_log (before : Standings) (c : Caused) : (closeStandings before c).log = c.1.log := by
  unfold closeStandings
  split <;> simp

@[simp] theorem enterFailing_log (r : ReceiveRecord) (why : ResyncReason) :
    (s.enterFailing r why).log = s.log := by simp [State.enterFailing]

/-! ### Operations that append an entry -/

theorem logFault_log (e : FaultEntry) : (s.logFault e).log = (appendLog s.log s.overrun e).1 := by
  unfold State.logFault
  dsimp only
  split
  · rfl
  · exact notify_log _ _

/-- The fault log of `t` is that of `s`, or that with one entry appended. -/
def AtMostOneLogged (s t : State) : Prop := t.log = s.log ∨ ∃ o e, t.log = (appendLog s.log o e).1

theorem AtMostOneLogged.of_eq {s t : State} (h : t.log = s.log) : AtMostOneLogged s t := .inl h

theorem AtMostOneLogged.of_logFault {s t u : State} {e : FaultEntry} (before : t.log = s.log)
    (after : u.log = (t.logFault e).log) : AtMostOneLogged s u :=
  .inr ⟨t.overrun, e, by rw [after, logFault_log, before]⟩

theorem failJoin_logs (why : ResyncReason) : AtMostOneLogged s (s.failJoin why) := by
  unfold State.failJoin
  split
  · exact .of_eq rfl
  · exact .of_logFault (by simp) (notify_log _ _)

theorem beginFailing_logs (why : ResyncReason) (abort : Option AbortReason) :
    AtMostOneLogged s (s.beginFailing why abort) := by
  unfold State.beginFailing
  split
  · exact .of_eq rfl
  · split
    · exact .of_eq rfl
    · exact .of_logFault (by simp) (discardStray_log _)

theorem failResync_logs (why : ResyncReason) (abort : Option AbortReason) :
    AtMostOneLogged s (s.failResync why abort) := by
  have begins := beginFailing_logs s why abort
  unfold State.failResync
  dsimp only
  split
  · simpa only [AtMostOneLogged, finishFill_log] using begins
  · exact begins

theorem laneFatal_logs (k : FaultKind) : AtMostOneLogged s (s.laneFatal k) := by
  unfold State.laneFatal
  split
  · exact .of_eq (by simp)
  · exact failJoin_logs s _
  · exact failResync_logs s _ _
  all_goals exact .of_eq rfl

/-- An entry stays in the fault log when one more is appended: the log holds 16 and only its oldest leaves (R169). -/
theorem mem_appendLog_appendLog (log : List FaultEntry) (o o' : Nat) (e e' : FaultEntry) :
    e ∈ (appendLog (appendLog log o e).1 o' e').1 := by
  have oldest : ∀ l : List FaultEntry, l ≠ [] → e ∈ (l ++ [e]).tail := by
    intro l ne
    simp [List.tail_append_of_ne_nil ne]
  by_cases room : log.length < Config.faultLogMax
  · simp only [appendLog, if_pos room]
    split
    · simp
    · rename_i full
      have ne : log ≠ [] := by rintro rfl; exact full (by simp [Config.faultLogMax])
      exact List.mem_append_left _ (oldest log ne)
  · have ne : log.tail ≠ [] := by
      have : 16 ≤ log.length := Nat.le_of_not_lt room
      rw [← List.length_pos_iff, List.length_tail]
      omega
    simp only [appendLog, if_neg room]
    split
    · simp
    · exact List.mem_append_left _ (oldest _ ne)

/-- A recorded fault stands in the log after all its consequences (R166, R173). -/
theorem mem_record_log (e : FaultEntry) : e ∈ (s.record e).log := by
  have appended : e ∈ (s.logFault e).log := by
    rw [logFault_log]
    unfold appendLog
    split <;> simp
  unfold State.record
  split
  · rcases laneFatal_logs (s.logFault e) e.kind with same | ⟨o, e', more⟩
    · rwa [same]
    · rw [more, logFault_log]
      exact mem_appendLog_appendLog _ _ _ _ _
  · exact appended

end Sys2Proof.VerifyUnit
end

section
/-! SUPPORT. The verify unit (R92, R95, R96): the word at its cursor and whether it asks for it, the parts of the end of
a table, and what that end does to the pass, the directory and the fault log. -/

namespace Sys2Proof.VerifyUnit
open Sys2Proof Sys2Proof.Machine

variable (s : State) {v : VerifyPass} {n : Nat} {t : Table}

/-! ### The word at the cursor -/

theorem number_of_table? (record : s.table? n = some t) : t.number = n := by
  simpa using List.find?_some record

theorem verifyWord_eq (entry : v.walk[v.index]? = some n) (record : s.table? n = some t) :
    s.verifyWord v = some (t.base + v.cursor) := by
  simp [State.verifyWord, entry, record]

theorem looksLost_verify {a : Nat} (pass : s.verify = some v) (word : s.verifyWord v = some a) :
    s.looksLost .verify = (s.atWork .verify && !s.waiting.verify && (s.isLost a || v.skip)) := by
  simp [State.looksLost, State.lookWord, State.skipDue, PerRequester.get, pass, word]

theorem readWord_tables (a : Nat) (upset : BitVec 22) : (s.readWord a upset).1.tables = s.tables := by
  obtain ⟨_, _, _, _, _, _, _, touched⟩ := s.readWord_touches a upset
  rw [touched]

theorem grantWork_tables {g : Grant} {r : Requester} {access : Access} {u : State}
    (granted : s.grantWork g r access = some u) : u.tables = s.tables := by
  obtain ⟨-, _, rfl⟩ := s.grantWork_touches granted
  rfl

/-- A granted read leaves the directory alone. -/
theorem table?_of_grantedRead {g : Grant} {r : Requester} {access : Access} {s1 s2 : State} {a : Nat}
    {upset : BitVec 22} {x : Option Word} (granted : s.grantWork g r access = some s1)
    (read : s1.readWord a upset = (s2, x)) (m : Nat) : s2.table? m = s.table? m := by
  have after : s2.tables = s1.tables := by simpa [read] using readWord_tables s1 a upset
  simp only [State.table?, after, grantWork_tables s granted]

/-! ### The three outcomes of VERIFY_READ -/

theorem exec_verifyRead (g : Grant) : exec (.verifyRead g) s = execVerifyRead g s := rfl

theorem execVerifyRead_of_looksLost (g : Grant) (pass : s.verify = some v) (looks : s.looksLost .verify = true) :
    execVerifyRead g s = .next s.skipVerifyTable.settle := by
  simp [execVerifyRead, pass, looks]

/-- The granted read is made: its value is taken, or its loss is met (R92, R93). -/
theorem execVerifyRead_of_granted {g : Grant} {a : Nat} {s1 : State} (pass : s.verify = some v)
    (word : s.verifyWord v = some a) (looks : s.looksLost .verify = false)
    (granted : s.grantWork g .verify .verifyRead = some s1) :
    (∀ s2, s1.readWord a g.upset = (s2, none) → execVerifyRead g s = .next (s2.loses .verify a).settle)
      ∧ ∀ s2 x, s1.readWord a g.upset = (s2, some x) → execVerifyRead g s = .next (s2.verifyTake v x).settle := by
  refine ⟨fun s2 read => ?_, fun s2 x read => ?_⟩ <;> simp [execVerifyRead, pass, looks, word, granted, read]

/-- The pass after the word at its cursor is taken (R92). -/
def passWord (v : VerifyPass) (x : Word) : VerifyPass :=
  { v with sums := v.sums.addWord v.cursor x, cursor := v.cursor + 1 }

theorem verifyTake_eq (x : Word) (entry : v.walk[v.index]? = some n) (record : s.table? n = some t) :
    s.verifyTake v x =
      if v.cursor + 1 < t.length then s.setVerify (passWord v x) else (s.setVerify (passWord v x)).endVerifyTable := by
  have kept : (s.setVerify (passWord v x)).table? n = some t := record
  unfold State.verifyTake
  simp only [entry, Option.bind_some]
  split
  · rename_i u found
    cases (kept.symm.trans found : some t = some u)
    rfl
  · rename_i found
    cases (kept.symm.trans found : some t = none)

/-! ### The parts of the end of a table -/

theorem applyVerdict_touches (m : Nat) (sums : Pair) (d : VerifyVerdict) :
    ∃ ts, s.applyVerdict m sums d = { s with tables := ts } := by
  cases d <;> exact ⟨_, rfl⟩

theorem recordDrift_image (m : Nat) (sums : Pair) (d : VerifyVerdict) : SameImage s (s.recordDrift m sums d) := by
  cases d with
  | drift p => exact s.record_image _
  | skipped | agrees | resettled => exact .refl s

theorem recordDrift_of_not_drift (m : Nat) (sums : Pair) {d : VerifyVerdict} (h : ∀ p, d ≠ .drift p) :
    s.recordDrift m sums d = s := by
  cases d with
  | drift p => exact absurd rfl (h p)
  | skipped | agrees | resettled => rfl

theorem completeVerify_of_last (pass : s.verify = some v) (last : v.walk.length ≤ v.index) :
    s.completeVerify.verify = none ∧ s.completeVerify.kept = v.results := by
  unfold State.completeVerify
  rw [pass]
  dsimp only
  rw [if_neg (Nat.not_lt.mpr last)]
  obtain ⟨_, _, _, _, touched⟩ := s.dropVerify_notify_touches v
    (.verify .complete v.origin v.startCycle s.cycle v.results none)
  rw [touched]
  exact ⟨rfl, rfl⟩

theorem completeVerify_of_more (pass : s.verify = some v) (more : v.index < v.walk.length) :
    s.completeVerify = s := by
  unfold State.completeVerify
  rw [pass]
  exact if_pos more

theorem nextVerifyTable_of_more {m : Nat} {x : Table} {r : VerifyResult}
    (entry : v.walk[v.index + 1]? = some m) (record : s.table? m = some x) :
    s.nextVerifyTable v r =
      { v with index := v.index + 1, cursor := 0, sums := x.seed, skip := false, results := v.results ++ [r] } := by
  simp [State.nextVerifyTable, entry, record]

/-! ### The end of a table -/

theorem endVerifyTable_eq (pass : s.verify = some v) (entry : v.walk[v.index]? = some n)
    (record : s.table? n = some t) :
    s.endVerifyTable =
      (((s.applyVerdict n v.sums (s.verdict v t)).setVerify
        (s.nextVerifyTable v ⟨n, s.verdict v t, v.sums⟩)).recordDrift n v.sums (s.verdict v t)).completeVerify := by
  have number := number_of_table? s record
  simp only [State.endVerifyTable, pass, entry, Option.bind_some, record, number]
  rfl

/-- The verdict of a table that ends, as R95 orders its conditions. -/
def VerdictHolds (s : State) (v : VerifyPass) (t : Table) (d : VerifyVerdict) : Prop :=
  let lost := ∃ a ∈ s.lostList, t.covers a = true
  (v.skip = true ∨ lost) ∧ d = .skipped
    ∨ v.skip = false ∧ ¬lost ∧ t.unsettled = true ∧ d = .resettled
    ∨ v.skip = false ∧ ¬lost ∧ t.unsettled = false ∧ t.working = some v.sums ∧ d = .agrees
    ∨ v.skip = false ∧ ¬lost ∧ t.unsettled = false ∧ ∃ p, t.working = some p ∧ p ≠ v.sums ∧ d = .drift p

theorem lostIn_iff (t : Table) : s.lostIn t = true ↔ ∃ a ∈ s.lostList, t.covers a = true := List.any_eq_true

theorem verdict_eq_of_holds {d : VerifyVerdict} (h : VerdictHolds s v t d) : s.verdict v t = d := by
  simp only [VerdictHolds, ← lostIn_iff s, Bool.not_eq_true] at h
  rcases h with ⟨skips, rfl⟩ | ⟨skip, lost, unsettled, rfl⟩ | ⟨skip, lost, settled, equal, rfl⟩
    | ⟨skip, lost, settled, p, pair, differs, rfl⟩
  · simp [State.verdict, skips]
  · simp [State.verdict, skip, lost, unsettled]
  · simp [State.verdict, skip, lost, settled, equal]
  · simp [State.verdict, skip, lost, settled, pair, differs]

/-- The directory after the end of a table is that of its verdict alone: no later part of the end touches it. -/
theorem endVerifyTable_tables (pass : s.verify = some v) (entry : v.walk[v.index]? = some n)
    (record : s.table? n = some t) :
    s.endVerifyTable.tables = (s.applyVerdict n v.sums (s.verdict v t)).tables := by
  rw [endVerifyTable_eq s pass entry record]
  obtain ⟨_, _, _, _, _, _, touched⟩ := State.completeVerify_touches _
  rw [touched]
  exact (recordDrift_image _ _ _ _).tables

theorem endVerifyTable_of_not_drift (pass : s.verify = some v) (entry : v.walk[v.index]? = some n)
    (record : s.table? n = some t) (h : ∀ p, s.verdict v t ≠ .drift p) :
    s.endVerifyTable.log = s.log ∧ s.endVerifyTable.part = s.part := by
  rw [endVerifyTable_eq s pass entry record, recordDrift_of_not_drift _ _ _ h]
  obtain ⟨_, _, _, _, _, _, touched⟩ := State.completeVerify_touches _
  obtain ⟨_, applied⟩ := applyVerdict_touches s n v.sums (s.verdict v t)
  rw [touched, applied]
  exact ⟨rfl, rfl⟩

/-- DIGEST DRIFT stands in the log with the table, the pair replaced and the accumulator (R95). -/
theorem mem_endVerifyTable_log {p : Pair} (pass : s.verify = some v) (entry : v.walk[v.index]? = some n)
    (record : s.table? n = some t) (drifts : s.verdict v t = .drift p) :
    ⟨.digestDrift, s.cycle, none, some n, none, none, none, some (p, v.sums)⟩ ∈ s.endVerifyTable.log := by
  rw [endVerifyTable_eq s pass entry record, drifts]
  obtain ⟨_, _, _, _, _, _, touched⟩ := State.completeVerify_touches _
  rw [touched]
  exact mem_record_log _ _

/-- Before the pass is looked at for its completion, it has advanced and the kept results are as they were. -/
theorem endVerifyTable_cases (pass : s.verify = some v) (entry : v.walk[v.index]? = some n)
    (record : s.table? n = some t) :
    ∃ u : State, s.endVerifyTable = u.completeVerify ∧ u.kept = s.kept
      ∧ u.verify = some (s.nextVerifyTable v ⟨n, s.verdict v t, v.sums⟩) := by
  refine ⟨_, endVerifyTable_eq s pass entry record, ?_, ?_⟩
  · obtain ⟨_, applied⟩ := applyVerdict_touches s n v.sums (s.verdict v t)
    rw [(recordDrift_image _ _ _ _).kept, applied]
    rfl
  · exact (recordDrift_image _ _ _ _).verify

theorem endVerifyTable_of_last (pass : s.verify = some v) (entry : v.walk[v.index]? = some n)
    (record : s.table? n = some t) (last : v.walk.length ≤ v.index + 1) :
    s.endVerifyTable.verify = none ∧ s.endVerifyTable.kept = v.results ++ [⟨n, s.verdict v t, v.sums⟩] := by
  obtain ⟨u, ends, -, next⟩ := endVerifyTable_cases s pass entry record
  rw [ends]
  exact completeVerify_of_last u next last

theorem endVerifyTable_of_more {m : Nat} {x : Table} (pass : s.verify = some v)
    (entry : v.walk[v.index]? = some n) (record : s.table? n = some t)
    (entry' : v.walk[v.index + 1]? = some m) (record' : s.table? m = some x) :
    s.endVerifyTable.kept = s.kept ∧ s.endVerifyTable.verify = some { v with
      index := v.index + 1, cursor := 0, sums := ⟨x.number + 1, x.length⟩, skip := false
      results := v.results ++ [⟨n, s.verdict v t, v.sums⟩] } := by
  obtain ⟨u, ends, kept, next⟩ := endVerifyTable_cases s pass entry record
  obtain ⟨more, -⟩ := List.getElem?_eq_some_iff.mp entry'
  rw [ends, completeVerify_of_more u next more, kept, next, nextVerifyTable_of_more s entry' record']
  exact ⟨rfl, rfl⟩

end Sys2Proof.VerifyUnit
end

section
/-! PROOFS. The verify pass. -/

namespace Sys2Proof.VerifyUnit
open Sys2Proof Sys2Proof.Machine

/-- Settles O42, by the three outcomes of VERIFY_READ and by the parts of the end of a table. -/
theorem verifyPassSumsAndJudgesTables : Obligations.VerifyPassSumsAndJudgesTables := by
  constructor
  · intro s g v n t s1 pass entry record a
    have word : s.verifyWord v = some a := verifyWord_eq s entry record
    have looks := looksLost_verify s pass word
    have lost_iff : s.isLost a = true ↔ a ∈ s.lostList := List.contains_iff_mem
    constructor
    · intro work idle skips
      have looking : s.looksLost .verify = true := by
        rw [looks, work, idle]
        simpa [lost_iff, or_comm] using skips
      rw [exec_verifyRead, execVerifyRead_of_looksLost s g pass looking, State.skipVerifyTable, pass]
    · intro reads granted
      have looking : s.looksLost .verify = false := by
        rw [looks]
        rcases reads with waits | ⟨skip, present⟩
        · simp [waits]
        · simp [skip, Bool.eq_false_iff.mpr (mt lost_iff.mp present)]
      obtain ⟨onLoss, onValue⟩ := execVerifyRead_of_granted s pass word looking granted
      refine ⟨onLoss, fun s2 x read => ?_⟩
      have kept : s2.table? n = some t := (table?_of_grantedRead s granted read n).trans record
      have taken := verifyTake_eq s2 x entry kept
      constructor
      · intro more
        rw [exec_verifyRead, onValue s2 x read, taken, if_pos more]
        rfl
      · intro last
        rw [exec_verifyRead, onValue s2 x read, taken, if_neg (Nat.not_lt.mpr last)]
        rfl
  · intro s v n t verdict pass entry record lost holds
    obtain rfl : s.verdict v t = verdict := verdict_eq_of_holds s holds
    have tables := endVerifyTable_tables s pass entry record
    refine ⟨?_, ?_, ?_, ?_, ?_, ?_⟩
    · rintro (stands | stands) <;> rw [tables, stands] <;> rfl
    · intro resettled
      rw [tables, resettled]
      rfl
    · intro p drifts
      exact ⟨by rw [tables, drifts]; rfl, mem_endVerifyTable_log s pass entry record drifts⟩
    · exact endVerifyTable_of_not_drift s pass entry record
    · exact endVerifyTable_of_last s pass entry record
    · exact fun m x entry' record' => endVerifyTable_of_more s pass entry record entry' record'

end Sys2Proof.VerifyUnit
end
